-- ==== Sys2Proof/Word.lean ====
section
/-! DEFINITION. Word types of the serial packet framer: bytes, the decode key and the multi-byte lanes.
Bits are numbered from 0 at the least significant end (spec R12); every value is unsigned (R13). -/

set_option Elab.async false

namespace Sys2Proof

/-- A byte is 8 bits (R12). -/
abbrev Byte := BitVec 8

/-- The 16-bit decode key DK that selects an operation (R88). -/
abbrev DKey := BitVec 16

/-- A 40-bit bus or buffer of five byte lanes; lane `i` is bits `8i+7 .. 8i` (R12, R24, R54). -/
abbrev Lanes := BitVec 40

/-- A 3-bit byte count, as in `cnt`, `rsp_cnt` and `rej_cnt` (R20, R82). -/
abbrev Count := BitVec 3

/-- A 16-bit unsigned field of a packet (R7, R160). -/
abbrev Half := BitVec 16

end Sys2Proof
end

