-- ==== Sys2Proof/Config.lean ====
section
/-! DEFINITION. What the source fixes (R7), the implementation parameters (R8 to R10), the input pins of the block
(R36, R78, R82), and the free value the environment draws its pins from. -/

namespace Sys2Proof

/-- `PACKET_LENGTH` (R7). -/
def Config.packetLength : Nat := 5

/-- `START_MARKER`, the letter B (R7). -/
def Config.startMarker : Byte := 0x42#8

/-- `END_MARKER`, the letter E (R7). -/
def Config.endMarker : Byte := 0x45#8

/-- `NEWLINE` (R7). -/
def Config.newline : Byte := 0x0A#8

/-- The parameters the model takes as arguments (R8 to R10). They are data of the state that no step changes
(R245 PARAMS_FIXED; log 5). -/
structure Params where
  /-- `HTW`, the width of the host time (R8). -/
  htw : Nat
  /-- `AVW`, the width of `rsp_avail` (R9). -/
  avw : Nat
  /-- `PKT_TIMEOUT`, in consecutive polls below 5; 0 disables the timeout (R10). -/
  pktTimeout : Nat
  /-- `TMW`, the width of `tmo` (R10). -/
  tmw : Nat
deriving DecidableEq, Repr, Inhabited

/-- The defaults of R8 to R10. -/
def Config.defaults : Params := { htw := 64, avw := 16, pktTimeout := 0, tmw := 16 }

/-- The ranges of the parameters (R8 to R10 and the table of open parameters of 92_eei_decisions.md). -/
abbrev Params.Ok (p : Params) : Prop :=
  1 ≤ p.htw ∧ 3 ≤ p.avw ∧ 1 ≤ p.tmw ∧ p.pktTimeout ≤ 2 ^ p.tmw - 1

/-- The source response bus (R82). `avail` is a count of bytes; the port carries it saturated (R57). -/
structure Bus where
  /-- `rsp_valid`. -/
  valid : Bool
  /-- `rsp_cnt`. -/
  cnt : Count
  /-- `rsp_data`. -/
  data : Lanes
  /-- The number of bytes available, before saturation to `rsp_avail` (R57). -/
  avail : Nat
deriving DecidableEq, Repr, Inhabited

/-- What drives the response bus at one edge: any wire values at all (R53, R82, U1 to U4), or the ideal source of R77,
whose queue grows by `arrivals` before the edge and which answers an outstanding request if `answers`. -/
inductive SrcDrive where
  | wires (bus : Bus)
  | ideal (arrivals : List Byte) (answers : Bool)
deriving DecidableEq, Repr, Inhabited

/-- The input pins as one clock edge samples them (R36, R72, R78, R82), and what the sinks do in the cycle that ends at the
edge. -/
structure Pins where
  /-- `rst`, synchronous, active high (R230). -/
  rst : Bool
  /-- `en`, run enable (R101). -/
  en : Bool
  /-- The host clock; the `HTW`-bit pin carries its low `HTW` bits (R78; log 6). -/
  hostTime : Nat
  /-- The driver of the response bus. -/
  src : SrcDrive
  /-- Whether the sinks take an outcome presented in the cycle that ends at this edge (R64, R65). It is no pin of the block:
  the port has no backpressure, so no register depends on it (log 15). -/
  sinkTakes : Bool
deriving DecidableEq, Repr, Inhabited

/-- The free value: what the environment drives at an edge that the state's schedule does not list. Any value is
possible (U1 to U5, R246), so it has no body; it is applied to a plain counter of the state (log 3). -/
opaque Config.freePins : Nat → Pins

/-- The free value: how the sample sink writes a host time, "a floating-point value with the host clock's native
precision" (R66), whose digits the spec does not give. It has no body (log 15). -/
opaque Config.hostTimeText : Nat → String

end Sys2Proof
end

