-- ==== Sys2Proof/Machine/State.lean ====
section
/-! DEFINITION. The state of the block: every register of R20, the parameters (R8 to R10) and the environment's side of the pins
(log 3), as plain data; the reasons a step can stop; and the state right after reset (R41). -/

namespace Sys2Proof.Machine

/-- The control state `st`, all four codes of its 2 bits (R21, R80). -/
inductive CtlState where
  /-- 00: scanning for the start marker. -/
  | hunt
  /-- 01: waiting for 5 bytes and reading them. -/
  | accumulate
  /-- 10: checking the length and the end marker. -/
  | validate
  /-- 11: illegal; faults wherever it is found (R209). -/
  | illegal
deriving DecidableEq, Repr

/-- The kind of the outstanding request, `rq_kind` (R29, R81). -/
inductive ReqKind where
  /-- 00: no request. -/
  | none
  /-- 01: `read(1)`. -/
  | read1
  /-- 10: `bytes_available()`. -/
  | poll
  /-- 11: `read(5)`. -/
  | read5
deriving DecidableEq, Repr

/-- The kind of the last outcome, `out_kind` (R30, R85). -/
inductive OutKind where
  /-- 00. -/
  | idle
  /-- 01. -/
  | sample
  /-- 10. -/
  | rejected
  /-- 11: reserved, never emitted. -/
  | reserved
deriving DecidableEq, Repr

/-- The fault code `fcode` (R28, R87). -/
inductive FCode where
  /-- 00: no fault. -/
  | noFault
  /-- 01: a READ delivered more bytes than requested (R207). -/
  | cntRange
  /-- 10: a response with no request outstanding (R208). -/
  | spuriousRsp
  /-- 11: `st` = 11, or VALIDATE with `cnt` > 5 (R209). -/
  | illegalState
deriving DecidableEq, Repr

/-- The reject category `rej_code` (R32, R86), all eight codes of its 3 bits. -/
inductive RejCode where
  /-- 000: reserved, the reset value, never emitted. -/
  | reserved0
  /-- 001 (R141). -/
  | shortPacket
  /-- 010 (R142). -/
  | badTerminator
  /-- 011 (R105). -/
  | unexpectedByte
  /-- 100 (R123). -/
  | packetTimeout
  /-- 101: reserved, never emitted. -/
  | reserved5
  /-- 110: reserved, never emitted. -/
  | reserved6
  /-- 111: reserved, never emitted. -/
  | reserved7
deriving DecidableEq, Repr

/-- The environment's side of the block: what its pins carry at the coming edge and later, and the byte queue of the
source (R40, R77). It is no register of the block; the step reads it and moves it on (log 3). -/
structure Env where
  /-- The input pins at the coming edge. -/
  pins : Pins
  /-- The pins at the edges after that, next first. Where the list has run out, the pins are free. -/
  sched : List Pins
  /-- The arrived, unread bytes of the source, earliest first (R40); only the ideal source of R77 uses it. -/
  queue : List Byte
  /-- How many free values have been drawn: the argument of `Config.freePins` for the next one. -/
  drawn : Nat
deriving DecidableEq, Repr

/-- The machine: the registers of R20 in the order of its table, then the parameters and the environment. -/
structure State where
  /-- `st`, the control state (R21). -/
  st : CtlState
  /-- `armed`: a POLL has reported 5 or more bytes and the next transaction is READ5 (R23). -/
  armed : Bool
  /-- `buf`, the packet buffer, 5 lanes (R24). -/
  buf : Lanes
  /-- `cnt`, the number of bytes READ5 delivered (R25). -/
  cnt : Count
  /-- `t_cap`, the host time captured at the start marker, below 2^HTW (R26). -/
  tCap : Nat
  /-- `tmo`, the count of consecutive POLL responses below 5, below 2^TMW (R27). -/
  tmo : Nat
  /-- `fault`, sticky (R28). -/
  fault : Bool
  /-- `fcode` (R28). -/
  fcode : FCode
  /-- `rq_out`: a request is outstanding (R29). -/
  rqOut : Bool
  /-- `rq_kind` (R29). -/
  rqKind : ReqKind
  /-- `out_valid`, the outcome strobe (R30). -/
  outValid : Bool
  /-- `out_kind` (R30). -/
  outKind : OutKind
  /-- `smp_ts` (R31). -/
  smpTs : Half
  /-- `smp_rd` (R31). -/
  smpRd : Half
  /-- `smp_time`, below 2^HTW (R31). -/
  smpTime : Nat
  /-- `rej_code` (R32). -/
  rejCode : RejCode
  /-- `rej_cnt` (R32). -/
  rejCnt : Count
  /-- `rej_data` (R32). -/
  rejData : Lanes
  /-- The parameters, the same for the whole run (R8 to R10, R245). -/
  params : Params
  /-- The environment. -/
  env : Env
deriving DecidableEq, Repr

/-- The reasons a step stops the model. The spec's own faults are not here: they are the registers `fault` and `fcode`
(R206), and a step that raises one answers a next state. -/
inductive Fault where
  /-- Raised by accepting a response while `rq_kind` = 00. R81 says 00 is held only while no request is outstanding, and
  R84 gives such a response no event, so no effect is described. No run from reset reaches it. Safe (log 9). -/
  | requestKindNone
deriving DecidableEq, Repr

/-- The reasons the model gives an instruction no meaning. -/
inductive Refusal where
  /-- Raised by `exec` for an operation whose meaning is not written yet; no arm does. Safe. -/
  | notModelled (mnemonic : String)
  /-- Raised by the step when the decoder rejects the decode key. The operation map is total (R90), so no key reaches it.
  Safe (log 17). -/
  | noRow
deriving DecidableEq, Repr

/-- The pins in the state right after reset: everything low, the sinks ready. DESIGN CHOICE, log 4. -/
def quietPins : Pins :=
  { rst := false, en := false, hostTime := 0,
    src := .wires { valid := false, cnt := 0, data := 0, avail := 0 }, sinkTakes := true }

/-- The machine right after reset: every register at its value of R41, the default parameters, and an environment that
has nothing scheduled and no byte queued (log 4). -/
def State.reset : State :=
  { st := .hunt, armed := false, buf := 0, cnt := 0, tCap := 0, tmo := 0, fault := false, fcode := .noFault,
    rqOut := false, rqKind := .none, outValid := false, outKind := .idle, smpTs := 0, smpRd := 0, smpTime := 0,
    rejCode := .reserved0, rejCnt := 0, rejData := 0, params := Config.defaults,
    env := { pins := quietPins, sched := [], queue := [], drawn := 0 } }

end Sys2Proof.Machine
end

