-- ==== Sys2Proof/Machine/Flags.lean ====
section
/-! DEFINITION. The conditions the decode key carries as flags (R88, R89) and the poll counter's next value (R122). -/

namespace Sys2Proof.Machine

/-- AVOK: the count a POLL returned is at least 5 (R57, R88). -/
def avok (a : Nat) : Bool := decide (Config.packetLength ≤ a)

/-- TMO: the packet timeout fires on this poll; the sum is exact, not saturated (R89). -/
def tmoFires (p : Params) (tmo : Nat) : Bool := p.pktTimeout != 0 && decide (p.pktTimeout ≤ tmo + 1)

/-- The next value of `tmo`, saturating at `2^TMW − 1` (R27, R122). -/
def tmoNext (p : Params) (tmo : Nat) : Nat := min (tmo + 1) (2 ^ p.tmw - 1)

end Sys2Proof.Machine
end

