-- ==== Sys2Proof/Machine/Extractor.lean ====
section
/-! DEFINITION. Byte lanes (R12, R54) and the little-endian 16-bit field extractor, the block's only arithmetic (R160 to R166). -/

namespace Sys2Proof.Machine

/-- Byte lane `i` of a 40-bit bus or buffer: bits `8i+7 .. 8i` (R12, R54). -/
def lane (d : Lanes) (i : Nat) : Byte := d.extractLsb' (8 * i) 8

/-- Five bytes as lanes, the first in lane 0 (R54). -/
def packLanes (b0 b1 b2 b3 b4 : Byte) : Lanes := b4 ++ (b3 ++ (b2 ++ (b1 ++ b0)))

/-- `LE16(lo, hi) = zext_16(lo) | (zext_16(hi) << 8)` (R160). -/
def le16 (lo hi : Byte) : Half := lo.setWidth 16 ||| (hi.setWidth 16 <<< 8)

/-- The timestamp of a packet: lanes 0 (low) and 1 (high) (R161). -/
def packetTs (buf : Lanes) : Half := le16 (lane buf 0) (lane buf 1)

/-- The reading of a packet: lanes 2 (low) and 3 (high) (R162). -/
def packetRd (buf : Lanes) : Half := le16 (lane buf 2) (lane buf 3)

end Sys2Proof.Machine
end

