-- ==== Sys2Proof/Machine/Ops.lean ====
section
/-! DEFINITION. The named operations over the registers: single-register writes, latching a packet (R124), presenting an outcome (R61),
entering a fault (R206), which is this machine's way of taking an exception, and leaving it, which is the reset edge (R230). -/

namespace Sys2Proof.Machine

/-! ## Single registers -/

/-- `st <- x` (R14). -/
def State.setSt (s : State) (x : CtlState) : State := { s with st := x }

/-- `armed <- b` (R23). -/
def State.setArmed (s : State) (b : Bool) : State := { s with armed := b }

/-- `tmo <- n` (R27). -/
def State.setTmo (s : State) (n : Nat) : State := { s with tmo := n }

/-- `t_cap <- t` (R26). -/
def State.setTCap (s : State) (t : Nat) : State := { s with tCap := t }

/-- `out_valid <- 0`, as every edge begins (R30, R72). -/
def State.clearStrobe (s : State) : State := { s with outValid := false }

/-- `rq_out <- 1` and `rq_kind <- k` (R73). -/
def State.request (s : State) (k : ReqKind) : State := { s with rqOut := true, rqKind := k }

/-- `rq_out <- 0`; `rq_kind` keeps its value (R74). -/
def State.clearRequest (s : State) : State := { s with rqOut := false }

/-- The environment moves on; no register changes. -/
def State.setEnv (s : State) (e : Env) : State := { s with env := e }

/-! ## The packet buffer -/

/-- The lanes of `d` below `k`, and 0x00 in every lane at or above it (R24, R59, R124). -/
def maskLanes (k : Count) (d : Lanes) : Lanes :=
  packLanes
    (if 0 < k.toNat then lane d 0 else 0x00#8)
    (if 1 < k.toNat then lane d 1 else 0x00#8)
    (if 2 < k.toNat then lane d 2 else 0x00#8)
    (if 3 < k.toNat then lane d 3 else 0x00#8)
    (if 4 < k.toNat then lane d 4 else 0x00#8)

/-- `buf` and `cnt` from a READ5 response (R124). -/
def State.latchPacket (s : State) (k : Count) (d : Lanes) : State :=
  { s with buf := maskLanes k d, cnt := k }

/-! ## The outcome port -/

/-- An outcome of a frame cycle (R61). -/
inductive PortOutcome where
  | idle
  | sample (ts rd : Half) (t : Nat)
  | rejected (code : RejCode) (k : Count) (bytes : Lanes)
deriving DecidableEq, Repr

/-- `kind(o)` (R72, R85). -/
def PortOutcome.kind (o : PortOutcome) : OutKind :=
  match o with
  | .idle => .idle
  | .sample _ _ _ => .sample
  | .rejected _ _ _ => .rejected

/-- `Emit(o)`: the strobe, the kind, and the fields of that kind; the fields of the other kinds keep their values
(R61 to R63, R72). -/
def State.emit (s : State) (o : PortOutcome) : State :=
  match o with
  | .idle => { s with outValid := true, outKind := .idle }
  | .sample ts rd t => { s with outValid := true, outKind := .sample, smpTs := ts, smpRd := rd, smpTime := t }
  | .rejected code k bytes =>
    { s with outValid := true, outKind := .rejected, rejCode := code, rejCnt := k, rejData := bytes }

/-! ## Taking a fault, and leaving it -/

/-- `raise Fault(c)`: `fault <- 1`, `fcode <- c`, `out_valid` is 0 from that edge on, and no other register changes, so
`rq_out` and `rq_kind` keep their values too (R206, C12). -/
def State.raiseFault (s : State) (c : FCode) : State :=
  { s with fault := true, fcode := c, outValid := false }

/-- The reset edge: every register of R20 takes its value of R41. It is the only way out of a fault (R214, R230, R231).
The block does not reset the source (R232), and no parameter changes (R245). -/
def State.resetRegs (s : State) : State :=
  { State.reset with params := s.params, env := s.env }

end Sys2Proof.Machine
end

