-- ==== Sys2Proof/Machine/Source.lean ====
section
/-! DEFINITION. What the input pins carry at an edge: `en`, `rst`, the host time (R78) and the response bus (R82), driven by wires or by the
ideal source (R77); and how the environment moves on after the edge. -/

namespace Sys2Proof.Machine

/-- The `HTW`-bit `host_time` pin (R8, R78). -/
def State.hostTime (s : State) : Nat := s.env.pins.hostTime % 2 ^ s.params.htw

/-- `rsp_avail` for a count of available bytes: `min(available, 2^AVW − 1)` (R9, R57). -/
def portAvail (p : Params) (n : Nat) : Nat := min n (2 ^ p.avw - 1)

/-- The first five bytes of a queue as lanes; lanes past its end are 0x00 (R54; log 14). -/
def queueLanes (q : List Byte) : Lanes :=
  packLanes (q.getD 0 0x00#8) (q.getD 1 0x00#8) (q.getD 2 0x00#8) (q.getD 3 0x00#8) (q.getD 4 0x00#8)

/-- The ideal source's answer to a request of kind `k` with `q` queued (R77). -/
def idealBus (q : List Byte) (k : ReqKind) (valid : Bool) : Bus :=
  match k with
  | .read1 => { valid := valid, cnt := BitVec.ofNat 3 (min 1 q.length), data := queueLanes (q.take 1), avail := 0 }
  | .read5 => { valid := valid, cnt := BitVec.ofNat 3 (min 5 q.length), data := queueLanes (q.take 5), avail := 0 }
  | .poll => { valid := valid, cnt := 0, data := 0, avail := q.length }
  | .none => { valid := valid, cnt := 0, data := 0, avail := 0 }

/-- The bytes the ideal source takes from its queue to answer a request: those a READ delivers, none for a POLL
(R55, R77). -/
def idealTaken (q : List Byte) (k : ReqKind) : List Byte :=
  match k with
  | .read1 => q.drop 1
  | .read5 => q.drop 5
  | .poll => q
  | .none => q

/-- The response bus as this edge samples it (R74, R82). The ideal source answers only an outstanding request. -/
def State.bus (s : State) : Bus :=
  match s.env.pins.src with
  | .wires b => { b with avail := portAvail s.params b.avail }
  | .ideal arrivals answers =>
    let b := idealBus (s.env.queue ++ arrivals) s.rqKind (answers && s.rqOut)
    { b with avail := portAvail s.params b.avail }

/-- The source's queue after this edge: the arrivals are in it, and a READ that was answered has taken its bytes (R55). -/
def State.queueAfter (s : State) : List Byte :=
  match s.env.pins.src with
  | .wires _ => s.env.queue
  | .ideal arrivals answers =>
    if answers && s.rqOut then idealTaken (s.env.queue ++ arrivals) s.rqKind else s.env.queue ++ arrivals

/-- The environment after an edge: the next scheduled pins, or free ones where none are scheduled (log 3). -/
def Env.advance (e : Env) (queue : List Byte) : Env :=
  match e.sched with
  | p :: ps => { pins := p, sched := ps, queue := queue, drawn := e.drawn }
  | [] => { pins := Config.freePins e.drawn, sched := [], queue := queue, drawn := e.drawn + 1 }

/-- The environment after the edge that state `s` is about to see. -/
def State.nextEnv (s : State) : Env := s.env.advance s.queueAfter

end Sys2Proof.Machine
end

