-- ==== Sys2Proof/Machine/Accumulate.lean ====
section
/-! DEFINITION. The ACCUMULATE operations (41_accumulate.md). -/

namespace Sys2Proof.Machine

/-- ACC.POLL_READY (R121): `armed <- 1`; `tmo` is not changed, whether or not the timeout would fire too. -/
def execAccPollReady (s : State) : Host.Outcome State Fault Refusal :=
  .next (s.setArmed true)

/-- ACC.POLL_TIMEOUT (R123): the reject with no bytes, then back to HUNT. -/
def execAccPollTimeout (s : State) : Host.Outcome State Fault Refusal :=
  .next (((s.emit (.rejected .packetTimeout 0#3 0#40)).setArmed false).setSt .hunt)

/-- ACC.POLL_WAIT (R122): count the poll, saturating. -/
def execAccPollWait (s : State) : Host.Outcome State Fault Refusal :=
  .next (s.setTmo (tmoNext s.params s.tmo))

/-- ACC.R5_CNTFAULT (R125): `raise Fault(CNT_RANGE)`. -/
def execAccR5Cntfault (s : State) : Host.Outcome State Fault Refusal :=
  .next (s.raiseFault .cntRange)

/-- ACC.R5_ACCEPT (R124): latch the delivered lanes and the count, clear `armed`, go to VALIDATE. -/
def execAccR5Accept (k : Count) (s : State) : Host.Outcome State Fault Refusal :=
  .next (((s.latchPacket k s.bus.data).setArmed false).setSt .validate)

end Sys2Proof.Machine
end

