-- ==== Sys2Proof/Machine/Hunt.lean ====
section
/-! DEFINITION. The HUNT operations (40_hunt.md). -/

namespace Sys2Proof.Machine

/-- HUNT.START (R103): capture the host time of this edge, clear `tmo` and `armed`, enter ACCUMULATE; no outcome. -/
def execHuntStart (s : State) : Host.Outcome State Fault Refusal :=
  .next ((((s.setTCap s.hostTime).setTmo 0).setArmed false).setSt .accumulate)

/-- HUNT.NEWLINE (R104): benign noise, `Emit(Idle)`. -/
def execHuntNewline (s : State) : Host.Outcome State Fault Refusal :=
  .next (s.emit .idle)

/-- HUNT.UNEXPECTED (R105): the reject of one byte. -/
def execHuntUnexpected (b : Byte) (s : State) : Host.Outcome State Fault Refusal :=
  .next (s.emit (.rejected .unexpectedByte 1#3 (b.setWidth 40)))

/-- HUNT.TIMEOUT (R102): `Emit(Idle)`. -/
def execHuntTimeout (s : State) : Host.Outcome State Fault Refusal :=
  .next (s.emit .idle)

/-- HUNT.CNTFAULT (R106): `raise Fault(CNT_RANGE)`. -/
def execHuntCntfault (s : State) : Host.Outcome State Fault Refusal :=
  .next (s.raiseFault .cntRange)

end Sys2Proof.Machine
end

