-- ==== Sys2Proof/Machine/IllegalState.lean ====
section
/-! DEFINITION. The operation of the illegal control state (60_exceptions.md). -/

namespace Sys2Proof.Machine

/-- ILLEGAL_STATE (R209): `raise Fault(ILLEGAL_STATE)`. -/
def execIllegalState (s : State) : Host.Outcome State Fault Refusal :=
  .next (s.raiseFault .illegalState)

end Sys2Proof.Machine
end

