-- ==== Sys2Proof/Machine/Validate.lean ====
section
/-! DEFINITION. The VALIDATE operations (42_validate.md) and VAL.CNTFAULT (60_exceptions.md). They read the registers `cnt`, `buf` and
`t_cap`, which the decode key only mirrors (log 16). -/

namespace Sys2Proof.Machine

/-- VAL.SAMPLE (R143): decode the two fields, emit the sample with the captured host time, return to HUNT. -/
def execValSample (s : State) : Host.Outcome State Fault Refusal :=
  .next ((s.emit (.sample (packetTs s.buf) (packetRd s.buf) s.tCap)).setSt .hunt)

/-- VAL.BADTERM (R142): reject the 5 bytes, return to HUNT. -/
def execValBadterm (s : State) : Host.Outcome State Fault Refusal :=
  .next ((s.emit (.rejected .badTerminator 5#3 s.buf)).setSt .hunt)

/-- VAL.CNTFAULT (R209): `raise Fault(ILLEGAL_STATE)`. -/
def execValCntfault (s : State) : Host.Outcome State Fault Refusal :=
  .next (s.raiseFault .illegalState)

/-- VAL.SHORT (R141): reject the delivered bytes, return to HUNT. -/
def execValShort (s : State) : Host.Outcome State Fault Refusal :=
  .next ((s.emit (.rejected .shortPacket s.cnt s.buf)).setSt .hunt)

end Sys2Proof.Machine
end

