-- ==== Sys2Proof/Syntax.lean ====
section
/-! DEFINITION. The operations of SPF-1 (R3), one constructor per row of the operation map of R90. An operand is a field of the decode
key that R89 sets for the row's event and that the row's match and mask leave open (log 11). -/

namespace Sys2Proof

/-- The 15 operations of R90, in row order. -/
inductive Instr where
  /-- Row 1, HUNT.START (R103). -/
  | huntStart
  /-- Row 2, HUNT.NEWLINE (R104). -/
  | huntNewline
  /-- Row 3, HUNT.UNEXPECTED, with the delivered byte (R105). -/
  | huntUnexpected (b : Byte)
  /-- Row 4, HUNT.TIMEOUT (R102). -/
  | huntTimeout
  /-- Row 5, HUNT.CNTFAULT, with the claimed count and the key byte (R106). -/
  | huntCntfault (k : Count) (b : Byte)
  /-- Row 6, ACC.POLL_READY; `tmo` says whether the timeout would also fire on this poll (R121). -/
  | accPollReady (tmo : Bool)
  /-- Row 7, ACC.POLL_TIMEOUT (R123). -/
  | accPollTimeout
  /-- Row 8, ACC.POLL_WAIT (R122). -/
  | accPollWait
  /-- Row 9, ACC.R5_CNTFAULT, with the claimed count (R125). -/
  | accR5Cntfault (k : Count)
  /-- Row 10, ACC.R5_ACCEPT, with the delivered count (R124). -/
  | accR5Accept (k : Count)
  /-- Row 11, VAL.SAMPLE (R143). -/
  | valSample
  /-- Row 12, VAL.BADTERM, with the byte found in the place of the end marker (R142). -/
  | valBadterm (b : Byte)
  /-- Row 13, VAL.CNTFAULT, with the register `cnt` and lane 4 of `buf` (R209). -/
  | valCntfault (k : Count) (b : Byte)
  /-- Row 14, VAL.SHORT, with the register `cnt` and lane 4 of `buf` (R141). -/
  | valShort (k : Count) (b : Byte)
  /-- Row 15, ILLEGAL_STATE (R209). -/
  | illegalState
deriving DecidableEq, Repr

end Sys2Proof
end

