-- ==== Sys2Proof/Machine/Dispatch.lean ====
section
/-! DEFINITION. The meaning of every operation of the operation map (R90): one arm per constructor. -/

namespace Sys2Proof.Machine

/-- The operation's own effect on the registers (R14, R15). The step around it is Machine/Edge.lean. -/
def exec (i : Instr) (s : State) : Host.Outcome State Fault Refusal :=
  match i with
  | .huntStart => Sys2Proof.Machine.execHuntStart s
  | .huntNewline => Sys2Proof.Machine.execHuntNewline s
  | .huntUnexpected b => Sys2Proof.Machine.execHuntUnexpected b s
  | .huntTimeout => Sys2Proof.Machine.execHuntTimeout s
  | .huntCntfault _ _ => Sys2Proof.Machine.execHuntCntfault s
  | .accPollReady _ => Sys2Proof.Machine.execAccPollReady s
  | .accPollTimeout => Sys2Proof.Machine.execAccPollTimeout s
  | .accPollWait => Sys2Proof.Machine.execAccPollWait s
  | .accR5Cntfault _ => Sys2Proof.Machine.execAccR5Cntfault s
  | .accR5Accept k => Sys2Proof.Machine.execAccR5Accept k s
  | .valSample => Sys2Proof.Machine.execValSample s
  | .valBadterm _ => Sys2Proof.Machine.execValBadterm s
  | .valCntfault _ _ => Sys2Proof.Machine.execValCntfault s
  | .valShort _ _ => Sys2Proof.Machine.execValShort s
  | .illegalState => Sys2Proof.Machine.execIllegalState s

end Sys2Proof.Machine
end

