-- ==== Sys2Proof/WellFormed.lean ====
section
/-! DEFINITION. Which operand values each operation of R90 can carry: those the "selects" column of R90 gives its row. -/

namespace Sys2Proof

/-- The operand ranges of the operation map (R90, R92), as a check. -/
def Instr.wf (i : Instr) : Bool :=
  match i with
  | .huntStart => true
  | .huntNewline => true
  | .huntUnexpected b => b != Config.startMarker && b != Config.newline
  | .huntTimeout => true
  | .huntCntfault k _ => decide (2#3 ≤ k)
  | .accPollReady _ => true
  | .accPollTimeout => true
  | .accPollWait => true
  | .accR5Cntfault k => decide (6#3 ≤ k)
  | .accR5Accept k => decide (k ≤ 5#3)
  | .valSample => true
  | .valBadterm b => b != Config.endMarker
  | .valCntfault k _ => decide (6#3 ≤ k)
  | .valShort k _ => decide (k ≤ 4#3)
  | .illegalState => true

/-- An operation whose operands are in the range its row of R90 selects. -/
abbrev Instr.WellFormed (i : Instr) : Prop := i.wf = true

end Sys2Proof
end

