-- ==== Sys2Proof/Decode.lean ====
section
/-! DEFINITION. The decode key DK (R88), the operation map as a table of rows (R90), the decoder that takes the first matching row,
and the encoder. The block stores no instruction words: DK is a device of the spec, built anew for each event (log 1). -/

namespace Sys2Proof

/-- DK from its fields: ST [15:14], ARMED [13], AVOK [12], TMO [11], CNT [10:8], KB [7:0] (R88). -/
def keyOf (st : BitVec 2) (armed avok tmo : Bool) (cnt : Count) (kb : Byte) : DKey :=
  st ++ (BitVec.ofBool armed ++ (BitVec.ofBool avok ++ (BitVec.ofBool tmo ++ (cnt ++ kb))))

/-- Field ST of DK (R88). -/
def keySt (w : DKey) : BitVec 2 := w.extractLsb' 14 2

/-- Field ARMED of DK (R88). -/
def keyArmed (w : DKey) : Bool := w.getLsbD 13

/-- Field AVOK of DK (R88). -/
def keyAvok (w : DKey) : Bool := w.getLsbD 12

/-- Field TMO of DK (R88). -/
def keyTmo (w : DKey) : Bool := w.getLsbD 11

/-- Field CNT of DK (R88). -/
def keyCnt (w : DKey) : Count := w.extractLsb' 8 3

/-- Field KB of DK (R88). -/
def keyByte (w : DKey) : Byte := w.extractLsb' 0 8

/-- One row of the operation map: its match, its mask, and the operation it selects with the operands read from DK. -/
structure OpRow where
  pattern : DKey
  mask : DKey
  op : DKey → Instr

/-- A row selects `w` when `(DK & mask) = match` (R90). -/
def OpRow.selects (r : OpRow) (w : DKey) : Bool := w &&& r.mask == r.pattern

/-- The operation map, in row order (R90). -/
def opMap : List OpRow :=
  [ ⟨0x0142#16, 0xC7FF#16, fun _ => .huntStart⟩,
    ⟨0x010A#16, 0xC7FF#16, fun _ => .huntNewline⟩,
    ⟨0x0100#16, 0xC700#16, fun w => .huntUnexpected (keyByte w)⟩,
    ⟨0x0000#16, 0xC700#16, fun _ => .huntTimeout⟩,
    ⟨0x0000#16, 0xC000#16, fun w => .huntCntfault (keyCnt w) (keyByte w)⟩,
    ⟨0x5000#16, 0xF000#16, fun w => .accPollReady (keyTmo w)⟩,
    ⟨0x4800#16, 0xF800#16, fun _ => .accPollTimeout⟩,
    ⟨0x4000#16, 0xF800#16, fun _ => .accPollWait⟩,
    ⟨0x6600#16, 0xE600#16, fun w => .accR5Cntfault (keyCnt w)⟩,
    ⟨0x6000#16, 0xE000#16, fun w => .accR5Accept (keyCnt w)⟩,
    ⟨0x8545#16, 0xC7FF#16, fun _ => .valSample⟩,
    ⟨0x8500#16, 0xC700#16, fun w => .valBadterm (keyByte w)⟩,
    ⟨0x8600#16, 0xC600#16, fun w => .valCntfault (keyCnt w) (keyByte w)⟩,
    ⟨0x8000#16, 0xC000#16, fun w => .valShort (keyCnt w) (keyByte w)⟩,
    ⟨0xC000#16, 0xC000#16, fun _ => .illegalState⟩ ]

/-- Why a key is rejected. -/
inductive DecodeError where
  /-- No row of the operation map selects the key. R90 says the table is total, so no key is rejected; the decoder
  itself does not rest on that. -/
  | noRow (w : DKey)
deriving DecidableEq, Repr

/-- The operation a key selects: the first row, in row order, with `(DK & mask) = match` (R90). -/
def decode (w : DKey) : Except DecodeError Instr :=
  match opMap.find? (fun r => r.selects w) with
  | some r => .ok (r.op w)
  | none => .error (.noRow w)

/-- The row number of an operation in R90. -/
def Instr.row (i : Instr) : Nat :=
  match i with
  | .huntStart => 1
  | .huntNewline => 2
  | .huntUnexpected _ => 3
  | .huntTimeout => 4
  | .huntCntfault _ _ => 5
  | .accPollReady _ => 6
  | .accPollTimeout => 7
  | .accPollWait => 8
  | .accR5Cntfault _ => 9
  | .accR5Accept _ => 10
  | .valSample => 11
  | .valBadterm _ => 12
  | .valCntfault _ _ => 13
  | .valShort _ _ => 14
  | .illegalState => 15

/-- The key of an operation, field by field as R89 sets them for its event; a field R89 does not list is 0. -/
def encode (i : Instr) : DKey :=
  match i with
  | .huntStart => keyOf 0b00#2 false false false 1#3 Config.startMarker
  | .huntNewline => keyOf 0b00#2 false false false 1#3 Config.newline
  | .huntUnexpected b => keyOf 0b00#2 false false false 1#3 b
  | .huntTimeout => keyOf 0b00#2 false false false 0#3 0x00#8
  | .huntCntfault k b => keyOf 0b00#2 false false false k b
  | .accPollReady tmo => keyOf 0b01#2 false true tmo 0#3 0x00#8
  | .accPollTimeout => keyOf 0b01#2 false false true 0#3 0x00#8
  | .accPollWait => keyOf 0b01#2 false false false 0#3 0x00#8
  | .accR5Cntfault k => keyOf 0b01#2 true false false k 0x00#8
  | .accR5Accept k => keyOf 0b01#2 true false false k 0x00#8
  | .valSample => keyOf 0b10#2 false false false 5#3 Config.endMarker
  | .valBadterm b => keyOf 0b10#2 false false false 5#3 b
  | .valCntfault k b => keyOf 0b10#2 false false false k b
  | .valShort k b => keyOf 0b10#2 false false false k b
  | .illegalState => keyOf 0b11#2 false false false 0#3 0x00#8

/-- The opcode table's view of the decoder: `w` holds the `nbits` low bits of DK, the bits above are 0, and no row is
longer than 16 bits. -/
def decodeTableWord (nbits w : Nat) : Option Instr :=
  if nbits ≤ 16 then
    match decode (BitVec.ofNat 16 (w % 2 ^ nbits)) with
    | .ok i => some i
    | .error _ => none
  else none

end Sys2Proof
end

