-- ==== Sys2Proof/Machine/Ports.lean ====
section
/-! DEFINITION. The bit codes of the state and port fields (R80, R81, R85 to R87) and the output wires (R36, R72, R95). -/

namespace Sys2Proof.Machine

/-- `st[1:0]` (R80). -/
def CtlState.code (x : CtlState) : BitVec 2 :=
  match x with
  | .hunt => 0b00#2
  | .accumulate => 0b01#2
  | .validate => 0b10#2
  | .illegal => 0b11#2

/-- The control state a 2-bit code stands for (R80). -/
def CtlState.ofCode (c : BitVec 2) : CtlState :=
  if c = 0b00#2 then .hunt else if c = 0b01#2 then .accumulate else if c = 0b10#2 then .validate else .illegal

/-- `rq_kind[1:0]` (R81). -/
def ReqKind.code (x : ReqKind) : BitVec 2 :=
  match x with
  | .none => 0b00#2
  | .read1 => 0b01#2
  | .poll => 0b10#2
  | .read5 => 0b11#2

/-- `out_kind[1:0]` (R85). -/
def OutKind.code (x : OutKind) : BitVec 2 :=
  match x with
  | .idle => 0b00#2
  | .sample => 0b01#2
  | .rejected => 0b10#2
  | .reserved => 0b11#2

/-- `fcode[1:0]` (R87). -/
def FCode.code (x : FCode) : BitVec 2 :=
  match x with
  | .noFault => 0b00#2
  | .cntRange => 0b01#2
  | .spuriousRsp => 0b10#2
  | .illegalState => 0b11#2

/-- `rej_code[2:0]` (R86). -/
def RejCode.code (x : RejCode) : BitVec 3 :=
  match x with
  | .reserved0 => 0b000#3
  | .shortPacket => 0b001#3
  | .badTerminator => 0b010#3
  | .unexpectedByte => 0b011#3
  | .packetTimeout => 0b100#3
  | .reserved5 => 0b101#3
  | .reserved6 => 0b110#3
  | .reserved7 => 0b111#3

/-- The output wires of the block: the request port, the status pins and the outcome port (R36, R72). -/
structure Outputs where
  rqValid : Bool
  rqKindO : BitVec 2
  stO : BitVec 2
  faultO : Bool
  faultCodeO : BitVec 2
  outValid : Bool
  outKind : BitVec 2
  smpTs : Half
  smpRd : Half
  smpTime : Nat
  rejCode : BitVec 3
  rejCnt : Count
  rejData : Lanes
deriving DecidableEq, Repr

/-- How the outputs are wired to the registers (R72, R95). -/
def State.outputs (s : State) : Outputs :=
  { rqValid := s.rqOut, rqKindO := s.rqKind.code, stO := s.st.code, faultO := s.fault, faultCodeO := s.fcode.code,
    outValid := s.outValid, outKind := s.outKind.code, smpTs := s.smpTs, smpRd := s.smpRd, smpTime := s.smpTime,
    rejCode := s.rejCode.code, rejCnt := s.rejCnt, rejData := s.rejData }

end Sys2Proof.Machine
end

