-- ==== Sys2Proof/Machine/Operands.lean ====
section
/-! DEFINITION. The operand forms: the transaction-level events (R84), the event a response makes (R74, R83), and the decode key of an
event (R88, R89). -/

namespace Sys2Proof.Machine

/-- The transaction-level events (R84). The `host_time` sample of `E_R1` is the pin at the same edge (`State.hostTime`). -/
inductive Event where
  /-- `E_R1(k, b)`. -/
  | r1 (k : Count) (b : Byte)
  /-- `E_POLL(a)`. -/
  | poll (a : Nat)
  /-- `E_R5(k, d)`. -/
  | r5 (k : Count) (d : Lanes)
  /-- `E_VAL`. -/
  | val
deriving DecidableEq, Repr

/-- The event an accepted response makes: the kind of the outstanding request says which fields it carries (R74, R83, R84).
Kind 00 is no request and makes no event (R81; log 9). -/
def responseEvent (k : ReqKind) (b : Bus) : Option Event :=
  match k with
  | .read1 => some (.r1 b.cnt (lane b.data 0))
  | .poll => some (.poll b.avail)
  | .read5 => some (.r5 b.cnt b.data)
  | .none => none

/-- The decode key of an event, set field by field as R89 sets it (log 8). -/
def eventKey (s : State) (e : Event) : DKey :=
  match e with
  | .r1 k b => keyOf CtlState.hunt.code false false false k (if k = 0#3 then 0x00#8 else b)
  | .poll a => keyOf CtlState.accumulate.code false (avok a) (tmoFires s.params s.tmo) 0#3 0x00#8
  | .r5 k _ => keyOf CtlState.accumulate.code true false false k 0x00#8
  | .val => keyOf CtlState.validate.code false false false s.cnt (lane s.buf 4)

/-- The decode key of state 11 (R89). -/
def illegalKey : DKey := keyOf CtlState.illegal.code false false false 0#3 0x00#8

end Sys2Proof.Machine
end

