-- ==== Sys2Proof/Machine/Edge.lean ====
section
/-! DEFINITION. One rising edge of the clock: the cases of R72 in their order (R211), issuing a request (R73), accepting a response (R74),
the transaction-level step they perform (R15), and how a decode key is laid before the machine. -/

namespace Sys2Proof.Machine

/-- `Step(P, S, E)` for the event whose decode key is `w`: the operation the key selects, performed (R15, R90). -/
def perform (w : DKey) (s : State) : Host.Outcome State Fault Refusal :=
  match decode w with
  | .ok i => exec i s
  | .error _ => .refused .noRow

/-- Accepting clears `rq_out`, unless the step raised a fault (R74, R206, C12). A block that takes a step is not faulted
before it, so `fault` after the step says whether it raised one. -/
def settle (o : Host.Outcome State Fault Refusal) : Host.Outcome State Fault Refusal :=
  match o with
  | .next t => .next (if t.fault then t else t.clearRequest)
  | .fault r => .fault r
  | .refused r => .refused r

/-- An edge with `rq_out` = 1 and `rsp_valid` = 1 (R74). -/
def acceptResponse (s : State) : Host.Outcome State Fault Refusal :=
  match responseEvent s.rqKind s.bus with
  | some e => settle (perform (eventKey s e) s)
  | none => .fault .requestKindNone

/-- The request an idle edge issues, if any (R52, R73, R101). -/
def requestDue (s : State) : Option ReqKind :=
  match s.st with
  | .hunt => if s.env.pins.en then some .read1 else none
  | .accumulate => if s.armed then some .read5 else some .poll
  | .validate => none
  | .illegal => none

/-- An edge that issues a request, or stays idle (R73). -/
def issueRequest (s : State) : State :=
  match requestDue s with
  | some k => s.request k
  | none => s

/-- The cases of R72 below `rst` and `fault`, with `out_valid` already cleared. -/
def liveEdge (s : State) : Host.Outcome State Fault Refusal :=
  if s.st = .illegal then perform illegalKey s
  else if s.bus.valid && !s.rqOut then .next (s.raiseFault .spuriousRsp)
  else if s.rqOut && s.bus.valid then acceptResponse s
  else if s.rqOut then .next s
  else if s.st = .validate then perform (eventKey s .val) s
  else .next (issueRequest s)

/-- What one rising edge does to the registers (R72, R211). -/
def edge (s : State) : Host.Outcome State Fault Refusal :=
  if s.env.pins.rst then .next s.resetRegs
  else if s.fault then .next s.clearStrobe
  else liveEdge s.clearStrobe

/-- The edge, and the environment moved on to the next one. -/
def edgeStep (s : State) : Host.Outcome State Fault Refusal :=
  match edge s with
  | .next t => .next (t.setEnv s.nextEnv)
  | .fault r => .fault r
  | .refused r => .refused r

/-- `s` with other wires on its pins at the coming edge, `rst` low; `en` and the host time stay. -/
def State.withWires (s : State) (b : Bus) : State :=
  s.setEnv { s.env with pins := { s.env.pins with rst := false, src := .wires b } }

/-- `s` with a READ1 outstanding in HUNT and its response of count `k` and byte `b` on the bus. -/
def placeRead1 (k : Count) (b : Byte) (s : State) : State :=
  { (s.withWires { valid := true, cnt := k, data := b.setWidth 40, avail := 0 }) with
    fault := false, st := .hunt, rqOut := true, rqKind := .read1 }

/-- `s` with a POLL outstanding in ACCUMULATE, its response below 5 or not, and a packet timeout that fires on it or
does not. -/
def placePoll (avok tmo : Bool) (s : State) : State :=
  { (s.withWires { valid := true, cnt := 0, data := 0, avail := if avok then Config.packetLength else 0 }) with
    fault := false, st := .accumulate, armed := false, rqOut := true, rqKind := .poll,
    params := { s.params with pktTimeout := if tmo then 1 else 0 } }

/-- `s` with a READ5 outstanding in ACCUMULATE and its response of count `k` on the bus. -/
def placeRead5 (k : Count) (s : State) : State :=
  { (s.withWires { valid := true, cnt := k, data := 0, avail := 0 }) with
    fault := false, st := .accumulate, armed := true, rqOut := true, rqKind := .read5 }

/-- `s` in VALIDATE with `cnt` and lane 4 of `buf` as given, and a silent source. -/
def placeVal (k : Count) (b : Byte) (s : State) : State :=
  { (s.withWires { valid := false, cnt := 0, data := 0, avail := 0 }) with
    fault := false, st := .validate, cnt := k, rqOut := false,
    buf := packLanes (lane s.buf 0) (lane s.buf 1) (lane s.buf 2) (lane s.buf 3) b }

/-- `s` found in state 11, with a silent source. -/
def placeIllegal (s : State) : State :=
  { (s.withWires { valid := false, cnt := 0, data := 0, avail := 0 }) with fault := false, st := .illegal }

/-- `s` with the registers, the parameter and the pins such that the next edge decodes the key `w`: the block fetches
nothing (R76), it builds the key from the state and a response (R88, R89; log 13). -/
def placeKey (w : DKey) (s : State) : State :=
  match CtlState.ofCode (keySt w) with
  | .hunt => placeRead1 (keyCnt w) (keyByte w) s
  | .accumulate => if keyArmed w then placeRead5 (keyCnt w) s else placePoll (keyAvok w) (keyTmo w) s
  | .validate => placeVal (keyCnt w) (keyByte w) s
  | .illegal => placeIllegal s

end Sys2Proof.Machine
end

