-- ==== Sys2Proof/Machine/Stream.lean ====
section
/-! DEFINITION. Byte streams and schedules: the pseudo-operations FRAME and BADFRAME (R94), and how a stream with its arrival schedule is put
before the machine through the ideal source (R77, R94; log 13). -/

namespace Sys2Proof.Machine

/-- `lo(v) = v[7:0]` (R94). -/
def loByte (v : Half) : Byte := v.extractLsb' 0 8

/-- `hi(v) = v[15:8]` (R94). -/
def hiByte (v : Half) : Byte := v.extractLsb' 8 8

/-- `BADFRAME(ts, rd, x)`: a frame with terminator byte `x` (R94). -/
def badFrame (ts rd : Half) (x : Byte) : List Byte :=
  [Config.startMarker, loByte ts, hiByte ts, loByte rd, hiByte rd, x]

/-- `FRAME(ts, rd)` (R94). -/
def frame (ts rd : Half) : List Byte := badFrame ts rd Config.endMarker

/-- The pins of one edge on which the block may scan and the ideal source answers at once, after `arrivals`. -/
def idealPins (hostTime : Nat) (arrivals : List Byte) : Pins :=
  { rst := false, en := true, hostTime := hostTime, src := .ideal arrivals true, sinkTakes := true }

/-- The pins of one edge on which the block may scan and the response bus carries the given wires. -/
def wirePins (hostTime : Nat) (b : Bus) : Pins :=
  { rst := false, en := true, hostTime := hostTime, src := .wires b, sinkTakes := true }

/-- `s` with the coming edges' pins listed, the first of them at the coming edge. -/
def State.withSchedule (s : State) (first : Pins) (rest : List Pins) : State :=
  s.setEnv { s.env with pins := first, sched := rest }

end Sys2Proof.Machine
end

