-- ==== Sys2Proof/Machine/Step.lean ====
section
/-! DEFINITION. The step of the machine: one rising edge of the clock (R72). Everything it does is in Machine/Edge.lean. -/

namespace Sys2Proof.Machine

/-- One rising edge of `clk` (R72), with the pins the state holds for it. -/
def step (s : State) : Host.Outcome State Fault Refusal := Sys2Proof.Machine.edgeStep s

/-- `s` arranged so that the very next edge decodes the key made of the `nbits` low bits of `w` (log 13). -/
def State.withFetchWord (s : State) (nbits w : Nat) : State :=
  Sys2Proof.Machine.placeKey (BitVec.ofNat 16 (w % 2 ^ nbits)) s

end Sys2Proof.Machine
end

