-- ==== Sys2Proof/Machine/Sinks.lean ====
section
/-! DEFINITION. The two sinks on the outcome port (R60): which outcomes each takes, and what it writes (R63, R66, R67). They are agents of the
environment that never stall the block (R64), so no register depends on them. -/

namespace Sys2Proof.Machine

/-- The line the sample sink writes: timestamp and reading in unsigned decimal, then the host time, then a newline (R66). -/
def sampleLine (ts rd : Half) (t : Nat) : String :=
  toString ts.toNat ++ " " ++ toString rd.toNat ++ " " ++ Config.hostTimeText t ++ "\n"

/-- The raw bytes of a reject: the lanes below the count (R63). -/
def rejectBytes (k : Count) (d : Lanes) : List Byte :=
  [lane d 0, lane d 1, lane d 2, lane d 3, lane d 4].take k.toNat

/-- What the sample sink makes of an outcome (R60, R66). -/
def PortOutcome.sampleSink (o : PortOutcome) : Option String :=
  match o with
  | .idle => none
  | .sample ts rd t => some (sampleLine ts rd t)
  | .rejected _ _ _ => none

/-- What the diagnostic sink is given of an outcome: the category and the raw bytes (R60, R63, R67). -/
def PortOutcome.diagnosticSink (o : PortOutcome) : Option (RejCode × List Byte) :=
  match o with
  | .idle => none
  | .sample _ _ _ => none
  | .rejected code k d => some (code, rejectBytes k d)

/-- The outcome is one that a sink takes: a Sample or a Rejected, not an Idle (R60). -/
def PortOutcome.forSink (o : PortOutcome) : Bool :=
  match o with
  | .idle => false
  | .sample _ _ _ => true
  | .rejected _ _ _ => true

end Sys2Proof.Machine
end

