-- ==== Sys2Proof/Safety.lean ====
section
/-! DEFINITION. What claims about the block are stated in: the invariant of R42 and the register rules, what the outcome port shows,
runs of edges, the launch premises of R245, the source's duty (R240) and the end of a run (R244). -/

namespace Sys2Proof.Machine

/-! ## Comparing registers -/

/-- Every register of R20 is the same; the parameters and the environment may differ. -/
abbrev State.SameRegs (a b : State) : Prop := a = { b with params := a.params, env := a.env }

/-- The registers no operation of a frame cycle writes when it emits nothing: the outcome registers but the strobe
(R30 to R32). -/
abbrev State.SameOutcome (a b : State) : Prop :=
  a.outKind = b.outKind ∧ a.smpTs = b.smpTs ∧ a.smpRd = b.smpRd ∧ a.smpTime = b.smpTime ∧
    a.rejCode = b.rejCode ∧ a.rejCnt = b.rejCnt ∧ a.rejData = b.rejData

/-! ## The invariant -/

/-- Every lane at or above `k` is 0x00. -/
abbrev lanesClear (k : Count) (d : Lanes) : Prop := ∀ i : Fin 5, k.toNat ≤ i.val → lane d i.val = 0x00#8

/-- R42: the five facts that hold of every state reachable from reset; the lanes of `buf` hold it in every state. -/
abbrev State.ControlInv (s : State) : Prop :=
  s.st ≠ .illegal ∧ (s.armed = true → s.st = .accumulate) ∧ s.cnt ≤ 5#3 ∧ lanesClear s.cnt s.buf ∧ s.rejCnt ≤ 5#3

/-- The outstanding request is the one its state issues (R29, R52, R73). -/
abbrev State.RequestInv (s : State) : Prop :=
  s.rqOut = true →
    (s.rqKind = .read1 ∧ s.st = .hunt) ∨
      (s.rqKind = .poll ∧ s.st = .accumulate ∧ s.armed = false) ∨
        (s.rqKind = .read5 ∧ s.st = .accumulate ∧ s.armed = true)

/-- The outcome port: the reserved codes are never emitted (R85, R86), reject lanes past the count are 0x00 (R32, R63),
and while the strobe is up the frame cycle has ended: HUNT, not armed, no request, no fault (R61, R107, R206). -/
abbrev State.PortInv (s : State) : Prop :=
  s.outKind ≠ .reserved ∧
    (s.rejCode ≠ .reserved5 ∧ s.rejCode ≠ .reserved6 ∧ s.rejCode ≠ .reserved7) ∧
      lanesClear s.rejCnt s.rejData ∧
        (s.outValid = true → s.st = .hunt ∧ s.armed = false ∧ s.rqOut = false ∧ s.fault = false)

/-- `fcode` names a fault exactly while `fault` is set (R28, R206). -/
abbrev State.FaultInv (s : State) : Prop := s.fault = true ↔ s.fcode ≠ .noFault

/-- The parameters are in their ranges and the registers of a parameter's width fit it (R8, R10, R20). -/
abbrev State.WidthInv (s : State) : Prop :=
  s.params.Ok ∧ s.tCap < 2 ^ s.params.htw ∧ s.smpTime < 2 ^ s.params.htw ∧ s.tmo < 2 ^ s.params.tmw

/-- The invariant of the machine. -/
abbrev State.Inv (s : State) : Prop :=
  s.ControlInv ∧ s.RequestInv ∧ s.PortInv ∧ s.FaultInv ∧ s.WidthInv

/-! ## What is observed -/

/-- The outcome on the port, with the fields that are meaningful: none while the strobe is low (R30 to R32, R61). -/
def State.presented (s : State) : Option PortOutcome :=
  if s.outValid then
    match s.outKind with
    | .idle => some .idle
    | .sample => some (.sample s.smpTs s.smpRd s.smpTime)
    | .rejected => some (.rejected s.rejCode s.rejCnt s.rejData)
    | .reserved => none
  else none

/-- The state after `n` edges, if no edge stopped the model. -/
def stateAfter (n : Nat) (s : State) : Option State :=
  match n with
  | 0 => some s
  | k + 1 =>
    match step s with
    | .next t => stateAfter k t
    | .fault _ => none
    | .refused _ => none

/-- The outcomes presented after each of `n` edges, in order: a run's observation (R244). -/
def emissions (n : Nat) (s : State) : List PortOutcome :=
  match n with
  | 0 => []
  | k + 1 =>
    match step s with
    | .next t => t.presented.toList ++ emissions k t
    | .fault _ => []
    | .refused _ => []

/-- The outcome the sinks take in the cycle of this state, which the next edge ends (R64, R65). -/
def State.taken (s : State) : Option PortOutcome := if s.env.pins.sinkTakes then s.presented else none

/-- The outcomes the sinks take in the cycles after each of `n` edges, in order; one that is not taken is lost (R65). -/
def recorded (n : Nat) (s : State) : List PortOutcome :=
  match n with
  | 0 => []
  | k + 1 =>
    match step s with
    | .next t => t.taken.toList ++ recorded k t
    | .fault _ => []
    | .refused _ => []

/-- The run has ended at the edge that led to state `t` (R244). `en` is 0 after that edge: it is the pin of the coming edge,
at which the block would otherwise issue a READ1 (R101). -/
abbrev RunEnded (t : State) : Prop :=
  t.fault = false ∧ t.st = .hunt ∧ t.rqOut = false ∧ t.env.pins.en = false

/-! ## The environment's duties and the launch premises (R240, R245) -/

/-- At this edge the source keeps its port duty: it answers only an outstanding request, with a legal count (R240). -/
abbrev State.SrcConforms (s : State) : Prop :=
  s.bus.valid = true →
    s.rqOut = true ∧ (s.rqKind = .read1 → s.bus.cnt ≤ 1#3) ∧ (s.rqKind = .read5 → s.bus.cnt ≤ 5#3)

/-- `RESET_CLEAN`: the registers hold their values of R41. -/
abbrev ResetClean (s : State) : Prop := s.SameRegs State.reset

/-- The run of `n` edges from `s` meets `P` in the state before each of its edges. -/
def BeforeEachEdge (P : State → Prop) (n : Nat) (s : State) : Prop := ∀ m, m < n → ∀ t, stateAfter m s = some t → P t

/-- No request has been issued up to and including the state after `m` edges. -/
def NoRequestYet (m : Nat) (s : State) : Prop := ∀ k, k ≤ m → ∀ u, stateAfter k s = some u → u.rqOut = false

/-- `SRC_QUIET` in a run of `n` edges: no response is pending when `rst` falls, that is `rsp_valid` is 0 from the edge that
releases reset until the block has issued a request (R233 step 2). -/
def SrcQuiet (n : Nat) (s : State) : Prop :=
  ∀ m, m < n → ∀ t, stateAfter m s = some t → t.env.pins.rst = false → NoRequestYet m s → t.bus.valid = false

/-- `PARAMS_FIXED`, its part that the step does not give: the parameters are in their ranges. -/
abbrev ParamsFixed (s : State) : Prop := s.params.Ok

/-- `SRC_CONFORMS` in a run of `n` edges: the source keeps its duty at every edge. -/
def RunConforms (n : Nat) (s : State) : Prop := BeforeEachEdge State.SrcConforms n s

/-- `SINK_READY` in a run of `n` edges: the sinks take every outcome in the cycle it is presented (R64). An Idle goes to no
sink (R60), and the host may ignore it (R246). -/
def SinkReady (n : Nat) (s : State) : Prop :=
  ∀ m, m ≤ n → ∀ t, stateAfter m s = some t → ∀ o, t.presented = some o → o.forSink = true → t.env.pins.sinkTakes = true

/-- The five premises that every claim about a run takes, for a run of `n` edges from `s` (R245). -/
def LaunchPremises (n : Nat) (s : State) : Prop :=
  ResetClean s ∧ SrcQuiet n s ∧ ParamsFixed s ∧ RunConforms n s ∧ SinkReady n s

/-- `SRC_ANSWERS`: every request is answered at some later edge. -/
def SrcAnswers (s : State) : Prop :=
  ∀ n t, stateAfter n s = some t → t.rqOut = true → ∃ m u, stateAfter (n + m) s = some u ∧ u.bus.valid = true

/-- `SRC_DELIVERS`: every start marker is followed, at some time, by a POLL count of at least 5. -/
def SrcDelivers (s : State) : Prop :=
  ∀ n t, stateAfter n s = some t → t.st = .accumulate → t.armed = false →
    ∃ m u, stateAfter (n + m) s = some u ∧ u.rqOut = true ∧ u.rqKind = .poll ∧ u.bus.valid = true ∧ 5 ≤ u.bus.avail

end Sys2Proof.Machine
end

