-- ==== Sys2Proof/Certificates/Slice0/Obligations.lean ====
section
/-! DEFINITION. The statements for the provers, each formalising rules of spec/ or a section of it (OBLIGATIONS.json says which).
A state with a register update written as a record is the spec's "no other register changes". -/

namespace Sys2Proof.Claims

/-- Match and mask of the 15 rows, written out from the table of R90, in row order. -/
def operationMap : List (BitVec 16 × BitVec 16) :=
  [ (0x0142#16, 0xC7FF#16), (0x010A#16, 0xC7FF#16), (0x0100#16, 0xC700#16), (0x0000#16, 0xC700#16),
    (0x0000#16, 0xC000#16), (0x5000#16, 0xF000#16), (0x4800#16, 0xF800#16), (0x4000#16, 0xF800#16),
    (0x6600#16, 0xE600#16), (0x6000#16, 0xE000#16), (0x8545#16, 0xC7FF#16), (0x8500#16, 0xC700#16),
    (0x8600#16, 0xC600#16), (0x8000#16, 0xC000#16), (0xC000#16, 0xC000#16) ]

/-- The number of the first row with `(DK & mask) = match` (R90). -/
def firstRow (w : DKey) : Option Nat :=
  (operationMap.findIdx? (fun r => w &&& r.2 == r.1)).map (fun n => n + 1)

/-- The key selects row `n`, and the decoder reads operation `i` from it. -/
abbrev Selects (w : DKey) (n : Nat) (i : Instr) : Prop := firstRow w = some n ∧ decode w = .ok i

/-- The operands of an operation are the fields of the key it was read from (R88). -/
def OperandsAreFields (i : Instr) (w : DKey) : Prop :=
  match i with
  | .huntStart => True
  | .huntNewline => True
  | .huntUnexpected b => b = w.extractLsb' 0 8
  | .huntTimeout => True
  | .huntCntfault k b => k = w.extractLsb' 8 3 ∧ b = w.extractLsb' 0 8
  | .accPollReady tmo => tmo = w.getLsbD 11
  | .accPollTimeout => True
  | .accPollWait => True
  | .accR5Cntfault k => k = w.extractLsb' 8 3
  | .accR5Accept k => k = w.extractLsb' 8 3
  | .valSample => True
  | .valBadterm b => b = w.extractLsb' 0 8
  | .valCntfault k b => k = w.extractLsb' 8 3 ∧ b = w.extractLsb' 0 8
  | .valShort k b => k = w.extractLsb' 8 3 ∧ b = w.extractLsb' 0 8
  | .illegalState => True

/-- The fields of a key, read bit by bit (R88). -/
abbrev KeyIs (w : DKey) (st : BitVec 2) (armed avok tmo : Bool) (cnt : BitVec 3) (kb : Byte) : Prop :=
  w.extractLsb' 14 2 = st ∧ w.getLsbD 13 = armed ∧ w.getLsbD 12 = avok ∧ w.getLsbD 11 = tmo ∧
    w.extractLsb' 8 3 = cnt ∧ w.extractLsb' 0 8 = kb

open Sys2Proof.Machine

/-- What a performed operation makes of the edge when a response was accepted (R74, R206): `rq_out` is cleared unless the
operation raised a fault, and the environment is at the next edge. -/
def afterAccept (e : Env) (o : Host.Outcome State Fault Refusal) : Host.Outcome State Fault Refusal :=
  match o with
  | .next t => .next (if t.fault then { t with env := e } else { t with rqOut := false, env := e })
  | .fault r => .fault r
  | .refused r => .refused r

/-- What a performed operation makes of the edge when no response was accepted. -/
def afterInternal (e : Env) (o : Host.Outcome State Fault Refusal) : Host.Outcome State Fault Refusal :=
  match o with
  | .next t => .next { t with env := e }
  | .fault r => .fault r
  | .refused r => .refused r

/-- The operations a sequence of POLL counts selects, performed one after the other, each in an environment of its own
(R15). -/
def performPolls (polls : List (Nat × Env)) (s : State) : Host.Outcome State Fault Refusal :=
  match polls with
  | [] => .next s
  | (n, e) :: rest =>
    match perform (eventKey s (.poll n)) (s.setEnv e) with
    | .next t => performPolls rest t
    | .fault r => .fault r
    | .refused r => .refused r

/-- What the two sinks get in the cycle of state `t`: the line of the sample sink, and the category and raw bytes of the
diagnostic sink. -/
def SinksGet (t : State) (line : Option String) (entry : Option (RejCode × List Byte)) : Prop :=
  t.taken.bind PortOutcome.sampleSink = line ∧ t.taken.bind PortOutcome.diagnosticSink = entry

/-- The first `k` lanes of `d` as a list, lane 0 first (R63). -/
def firstLanes (k : Nat) (d : Lanes) : List Byte := (List.range k).map fun i => d.extractLsb' (8 * i) 8

/-- The line of a sample whose fields are the given bytes, low byte first (R66, R160). -/
def lineOf (lo hi rlo rhi : Byte) (time : Nat) : String :=
  toString (lo.toNat + 256 * hi.toNat) ++ " " ++ toString (rlo.toNat + 256 * rhi.toNat) ++ " " ++
    Config.hostTimeText time ++ "\n"

/-- Every edge from `s` that the block takes as its own, unfaulted and not under reset, leaves `q` in the source's queue. -/
def LeavesQueue (s : State) (q : List Byte) : Prop :=
  s.env.pins.rst = false → s.fault = false → s.st ≠ .illegal → ∀ t, step s = .next t → t.env.queue = q

/-- `s` with other pins at the coming edge. -/
def withPins (s : State) (p : Pins) : State := s.setEnv { s.env with pins := p }

/-- Both edges answer a next state, and the two agree on every register. -/
def SameNextRegs (a b : State) : Prop :=
  ∃ t u, step a = .next t ∧ step b = .next u ∧ t.SameRegs u

/-- The edge at `s` accepts HUNT.START: a READ1 response of exactly the byte 0x42 (R103). -/
abbrev AcceptsStart (s : State) : Prop :=
  s.env.pins.rst = false ∧ s.fault = false ∧ s.st = .hunt ∧ s.rqOut = true ∧ s.rqKind = .read1 ∧
    s.bus.valid = true ∧ s.bus.cnt = 1#3 ∧ s.bus.data.extractLsb' 0 8 = 0x42#8

/-- The edge at `s` is not reset, and the block is neither faulted nor in state 11. -/
abbrev Live (s : State) : Prop := s.env.pins.rst = false ∧ s.fault = false ∧ s.st ≠ .illegal

end Sys2Proof.Claims

section
open Sys2Proof Sys2Proof.Machine Sys2Proof.Claims

/-! ## Decoding -/

/-- Decoding what is encoded gives the operation back, for every well-formed operation (30_encoding.md, sections 2, 3). -/
def Obligations.DecodeEncodeAgree : Prop :=
  ∀ i : Instr, i.WellFormed → decode (encode i) = .ok i

/-- Every key selects exactly one row, the first that matches; the operation is that row's, its operands are the key's
fields and they are in the row's range (30_encoding.md, section 3). -/
def Obligations.DecodeTakesFirstRowAndIsTotal : Prop :=
  ∀ w : DKey, ∃ i, decode w = .ok i ∧ firstRow w = some i.row ∧ OperandsAreFields i w ∧ i.WellFormed

/-- Words written out from the spec's encodings, one or more of each family, decode to the operations they stand for
(the vectors of 95_test_vectors.md, section 2). -/
def Obligations.VectorKeysDecode : Prop :=
  decode 0x0142#16 = .ok .huntStart ∧ decode 0x010A#16 = .ok .huntNewline ∧
    decode 0x0242#16 = .ok (.huntCntfault 2#3 0x42#8) ∧ decode 0x5800#16 = .ok (.accPollReady true) ∧
      decode 0x6700#16 = .ok (.accR5Cntfault 7#3) ∧ decode 0x8558#16 = .ok (.valBadterm 0x58#8) ∧
        decode 0x8300#16 = .ok (.valShort 3#3 0x00#8) ∧ decode 0xC000#16 = .ok .illegalState

/-- R89: the fields of the key of each event; the fields a clause gives as 0 are those R89 does not list. -/
def Obligations.EventKeyFields : Prop :=
  ∀ s : State,
    (∀ k b, KeyIs (eventKey s (.r1 k b)) 0b00#2 false false false k (if 1#3 ≤ k then b else 0x00#8)) ∧
      (∀ a, KeyIs (eventKey s (.poll a)) 0b01#2 false (decide (5 ≤ a))
        (decide (s.params.pktTimeout ≠ 0 ∧ s.params.pktTimeout ≤ s.tmo + 1)) 0#3 0x00#8) ∧
      (∀ k d, KeyIs (eventKey s (.r5 k d)) 0b01#2 true false false k 0x00#8) ∧
      KeyIs (eventKey s .val) 0b10#2 false false false s.cnt (s.buf.extractLsb' 32 8) ∧
      KeyIs illegalKey 0b11#2 false false false 0#3 0x00#8

/-- R88: where a response is accepted in a state that keeps the invariant, the response makes an event and the ST and
ARMED fields of its key are the registers `st` and `armed`. -/
def Obligations.EventKeyMirrorsState : Prop :=
  ∀ s : State, s.Inv → s.rqOut = true →
    ∃ e, responseEvent s.rqKind s.bus = some e ∧
      (eventKey s e).extractLsb' 14 2 = s.st.code ∧ (eventKey s e).getLsbD 13 = s.armed

/-! ## The operations -/

/-- R102, HUNT.TIMEOUT. -/
def Obligations.HuntTimeoutRule : Prop :=
  ∀ (s : State) (b : Byte),
    Selects (eventKey s (.r1 0#3 b)) 4 .huntTimeout ∧
      exec .huntTimeout s = .next { s with outValid := true, outKind := .idle } ∧
        exec .huntTimeout { s with outValid := true, outKind := .idle } =
          .next { s with outValid := true, outKind := .idle }

/-- R103, HUNT.START. -/
def Obligations.HuntStartRule : Prop :=
  ∀ s : State,
    Selects (eventKey s (.r1 1#3 0x42#8)) 1 .huntStart ∧
      exec .huntStart s =
        .next { s with tCap := s.env.pins.hostTime % 2 ^ s.params.htw, tmo := 0, armed := false, st := .accumulate } ∧
        ∀ b, b ≠ 0x42#8 → decode (eventKey s (.r1 1#3 b)) ≠ .ok .huntStart

/-- R104, HUNT.NEWLINE. -/
def Obligations.HuntNewlineRule : Prop :=
  ∀ s : State,
    Selects (eventKey s (.r1 1#3 0x0A#8)) 2 .huntNewline ∧
      exec .huntNewline s = .next { s with outValid := true, outKind := .idle } ∧
        exec .huntNewline s = exec .huntTimeout s ∧
          decode (eventKey s (.r1 1#3 0x0D#8)) = .ok (.huntUnexpected 0x0D#8) ∧
            ∀ b, b ≠ 0x0A#8 → decode (eventKey s (.r1 1#3 b)) ≠ .ok .huntNewline

/-- R105, HUNT.UNEXPECTED. -/
def Obligations.HuntUnexpectedRule : Prop :=
  ∀ (s : State) (b : Byte), b ≠ 0x42#8 → b ≠ 0x0A#8 →
    Selects (eventKey s (.r1 1#3 b)) 3 (.huntUnexpected b) ∧
      exec (.huntUnexpected b) s =
        .next { s with outValid := true, outKind := .rejected, rejCode := .unexpectedByte, rejCnt := 1#3,
                       rejData := b.setWidth 40 } ∧
        RejCode.unexpectedByte.code = 0b011#3 ∧ (b.setWidth 40).extractLsb' 0 8 = b ∧ ∀ i, 1 ≤ i → i ≤ 4 → (b.setWidth 40).extractLsb' (8 * i) 8 = 0x00#8

/-- R106, HUNT.CNTFAULT. -/
def Obligations.HuntCntfaultRule : Prop :=
  ∀ (s : State) (k : Count) (b : Byte), 2#3 ≤ k →
    Selects (eventKey s (.r1 k b)) 5 (.huntCntfault k b) ∧
      exec (.huntCntfault k b) s = .next { s with fault := true, fcode := .cntRange, outValid := false } ∧
        FCode.cntRange.code = 0b01#2

/-- R121, ACC.POLL_READY; it is also what a poll selects that would reach the timeout. -/
def Obligations.AccPollReadyRule : Prop :=
  ∀ (s : State) (a : Nat), 5 ≤ a →
    ∃ tmo, Selects (eventKey s (.poll a)) 6 (.accPollReady tmo) ∧
      exec (.accPollReady tmo) s = .next { s with armed := true }

/-- R122, ACC.POLL_WAIT. -/
def Obligations.AccPollWaitRule : Prop :=
  ∀ (s : State) (a : Nat), a < 5 → (s.params.pktTimeout = 0 ∨ s.tmo + 1 < s.params.pktTimeout) →
    Selects (eventKey s (.poll a)) 8 .accPollWait ∧
      exec .accPollWait s = .next { s with tmo := min (s.tmo + 1) (2 ^ s.params.tmw - 1) }

/-- R123, ACC.POLL_TIMEOUT. -/
def Obligations.AccPollTimeoutRule : Prop :=
  ∀ (s : State) (a : Nat), a < 5 → s.params.pktTimeout ≠ 0 → s.params.pktTimeout ≤ s.tmo + 1 →
    Selects (eventKey s (.poll a)) 7 .accPollTimeout ∧
      exec .accPollTimeout s =
        .next { s with outValid := true, outKind := .rejected, rejCode := .packetTimeout, rejCnt := 0#3, rejData := 0#40,
                       armed := false, st := .hunt } ∧
        RejCode.packetTimeout.code = 0b100#3

/-- The packet timeout fires on the `PKT_TIMEOUT`-th consecutive poll that reports fewer than 5 bytes, and on no earlier
one: from a poll count of 0 and after any polls below 5 fewer than the timeout (41_accumulate.md, corner case of
ACC.POLL_TIMEOUT). -/
def Obligations.PacketTimeoutFiresOnNthPoll : Prop :=
  ∀ (s : State) (polls : List (Nat × Env)) (a : Nat), s.params.Ok → s.params.pktTimeout ≠ 0 → s.tmo = 0 →
    (∀ p ∈ polls, p.1 < 5) → polls.length < s.params.pktTimeout → a < 5 →
      ∃ t, performPolls polls s = .next t ∧ t.outValid = s.outValid ∧ t.st = s.st ∧ t.tmo = polls.length ∧
        decode (eventKey t (.poll a)) =
          .ok (if polls.length + 1 = s.params.pktTimeout then .accPollTimeout else .accPollWait)

/-- R124, ACC.R5_ACCEPT. -/
def Obligations.AccR5AcceptRule : Prop :=
  ∀ (s : State) (k : Count), k ≤ 5#3 →
    Selects (eventKey s (.r5 k s.bus.data)) 10 (.accR5Accept k) ∧
      ∃ d, exec (.accR5Accept k) s = .next { s with buf := d, cnt := k, armed := false, st := .validate } ∧
        ∀ i, i < 5 → d.extractLsb' (8 * i) 8 = if i < k.toNat then s.bus.data.extractLsb' (8 * i) 8 else 0x00#8

/-- R125, ACC.R5_CNTFAULT. -/
def Obligations.AccR5CntfaultRule : Prop :=
  ∀ (s : State) (k : Count) (d : Lanes), 6#3 ≤ k →
    Selects (eventKey s (.r5 k d)) 9 (.accR5Cntfault k) ∧
      exec (.accR5Cntfault k) s = .next { s with fault := true, fcode := .cntRange, outValid := false } ∧
        FCode.cntRange.code = 0b01#2

/-- R141, VAL.SHORT. -/
def Obligations.ValShortRule : Prop :=
  ∀ s : State, s.cnt ≤ 4#3 →
    Selects (eventKey s .val) 14 (.valShort s.cnt (s.buf.extractLsb' 32 8)) ∧
      exec (.valShort s.cnt (s.buf.extractLsb' 32 8)) s =
        .next { s with outValid := true, outKind := .rejected, rejCode := .shortPacket, rejCnt := s.cnt, rejData := s.buf,
                       st := .hunt } ∧
        RejCode.shortPacket.code = 0b001#3

/-- R142, VAL.BADTERM. -/
def Obligations.ValBadtermRule : Prop :=
  ∀ s : State, s.cnt = 5#3 → s.buf.extractLsb' 32 8 ≠ 0x45#8 →
    Selects (eventKey s .val) 12 (.valBadterm (s.buf.extractLsb' 32 8)) ∧
      exec (.valBadterm (s.buf.extractLsb' 32 8)) s =
        .next { s with outValid := true, outKind := .rejected, rejCode := .badTerminator, rejCnt := 5#3, rejData := s.buf,
                       st := .hunt } ∧
        RejCode.badTerminator.code = 0b010#3

/-- R143, VAL.SAMPLE, with the fields as R160 to R162 give them. -/
def Obligations.ValSampleRule : Prop :=
  ∀ s : State, s.cnt = 5#3 → s.buf.extractLsb' 32 8 = 0x45#8 →
    Selects (eventKey s .val) 11 .valSample ∧
      ∃ ts rd : BitVec 16,
        exec .valSample s =
          .next { s with outValid := true, outKind := .sample, smpTs := ts, smpRd := rd, smpTime := s.tCap, st := .hunt } ∧
          ts.toNat = (s.buf.extractLsb' 0 8).toNat + 256 * (s.buf.extractLsb' 8 8).toNat ∧
            rd.toNat = (s.buf.extractLsb' 16 8).toNat + 256 * (s.buf.extractLsb' 24 8).toNat

/-- R209's first operation, VAL.CNTFAULT (DK row 13). -/
def Obligations.ValCntfaultRule : Prop :=
  ∀ s : State, 6#3 ≤ s.cnt →
    Selects (eventKey s .val) 13 (.valCntfault s.cnt (s.buf.extractLsb' 32 8)) ∧
      exec (.valCntfault s.cnt (s.buf.extractLsb' 32 8)) s =
        .next { s with fault := true, fcode := .illegalState, outValid := false } ∧
        FCode.illegalState.code = 0b11#2

/-- R209's second operation, ILLEGAL_STATE (DK row 15). -/
def Obligations.IllegalStateRule : Prop :=
  ∀ s : State,
    Selects illegalKey 15 .illegalState ∧
      exec .illegalState s = .next { s with fault := true, fcode := .illegalState, outValid := false } ∧
        FCode.illegalState.code = 0b11#2

/-- Every operation completes, from every state and on every operand (00_scope.md, section 5). -/
def Obligations.EveryOperationCompletes : Prop :=
  ∀ (i : Instr) (s : State), ∃ t, exec i s = .next t

/-- The frame of all 15 operations: which of them write each register, and that none touches the request, the
parameters or the environment (10_state.md, sections 2, 3). -/
def Obligations.OperationsWriteOnlyTheirRegisters : Prop :=
  ∀ (i : Instr) (s t : State), exec i s = .next t →
    (t.rqOut = s.rqOut ∧ t.rqKind = s.rqKind ∧ t.params = s.params ∧ t.env = s.env) ∧
      (i ≠ .huntStart → t.tCap = s.tCap) ∧
      (i ≠ .huntStart → i ≠ .accPollWait → t.tmo = s.tmo) ∧
      ((∀ k, i ≠ .accR5Accept k) → t.cnt = s.cnt ∧ ∀ j, j < 5 → t.buf.extractLsb' (8 * j) 8 = s.buf.extractLsb' (8 * j) 8) ∧
      (i ≠ .huntStart → (∀ m, i ≠ .accPollReady m) → i ≠ .accPollTimeout → (∀ k, i ≠ .accR5Accept k) → t.armed = s.armed) ∧
      (i ≠ .valSample → t.smpTs = s.smpTs ∧ t.smpRd = s.smpRd ∧ t.smpTime = s.smpTime) ∧
      ((∀ b, i ≠ .huntUnexpected b) → i ≠ .accPollTimeout → (∀ b, i ≠ .valBadterm b) → (∀ k b, i ≠ .valShort k b) →
        t.rejCode = s.rejCode ∧ t.rejCnt = s.rejCnt ∧ t.rejData = s.rejData) ∧
      ((∀ k b, i ≠ .huntCntfault k b) → (∀ k, i ≠ .accR5Cntfault k) → (∀ k b, i ≠ .valCntfault k b) →
        i ≠ .illegalState → t.fault = s.fault ∧ t.fcode = s.fcode) ∧
      (i ≠ .huntStart → i ≠ .accPollTimeout → (∀ k, i ≠ .accR5Accept k) → i ≠ .valSample → (∀ b, i ≠ .valBadterm b) →
        (∀ k b, i ≠ .valShort k b) → t.st = s.st) ∧
      (t.outValid = true → s.outValid = false →
        i = .huntNewline ∨ (∃ b, i = .huntUnexpected b) ∨ i = .huntTimeout ∨ i = .accPollTimeout ∨ i = .valSample ∨
          (∃ b, i = .valBadterm b) ∨ ∃ k b, i = .valShort k b) ∧
      (i = .huntStart ∨ (∃ m, i = .accPollReady m) ∨ i = .accPollWait ∨ (∃ k, i = .accR5Accept k) →
        t.outValid = s.outValid ∧ t.outKind = s.outKind) ∧
      ((∃ k b, i = .huntCntfault k b) ∨ (∃ k, i = .accR5Cntfault k) ∨ (∃ k b, i = .valCntfault k b) ∨ i = .illegalState →
        t.outValid = false ∧ t.outKind = s.outKind)

/-! ## The field extractor -/

/-- R160: the three forms of LE16 are equal. -/
def Obligations.Le16ThreeForms : Prop :=
  ∀ lo hi : Byte,
    le16 lo hi = lo.setWidth 16 ||| (hi.setWidth 16 <<< 8) ∧ le16 lo hi = hi ++ lo ∧
      (le16 lo hi).toNat = lo.toNat + 256 * hi.toNat

/-- R163, which the spec marks as derived from R160: the sum never overflows, and every 16-bit value is the LE16 of exactly one byte pair. -/
def Obligations.Le16IsBijection : Prop :=
  (∀ lo hi : Byte, (le16 lo hi).toNat = lo.toNat + 256 * hi.toNat ∧ lo.toNat + 256 * hi.toNat ≤ 65535) ∧
    ∀ v : BitVec 16, ∃ lo hi : Byte, le16 lo hi = v ∧ ∀ lo' hi' : Byte, le16 lo' hi' = v → lo' = lo ∧ hi' = hi

/-- The operations of a whole frame cycle, whatever the environment does between them: from any state, the start marker,
any polls below 5 that do not reach the packet timeout, a ready poll, a full READ5 whose lane 4 is the end marker, and
VALIDATE emit the sample of those bytes with the host time of the first of these edges, and nothing before it
(95_test_vectors.md W3, W7). -/
def Obligations.FrameCycleEmitsItsSample : Prop :=
  ∀ (s s1 : State) (polls : List (Nat × Env)), exec .huntStart s = .next s1 → (∀ p ∈ polls, p.1 < 5) →
    (s.params.pktTimeout = 0 ∨ polls.length < s.params.pktTimeout) →
      ∃ s2, performPolls polls s1 = .next s2 ∧
        ∀ (e2 e3 e4 : Env) (a : Nat), 5 ≤ a →
          ∃ m s3, decode (eventKey s2 (.poll a)) = .ok (.accPollReady m) ∧
            exec (.accPollReady m) (s2.setEnv e2) = .next s3 ∧
            ((s3.setEnv e3).bus.data.extractLsb' 32 8 = 0x45#8 →
              ∃ s4, exec (.accR5Accept 5#3) (s3.setEnv e3) = .next s4 ∧ s4.outValid = s.outValid ∧ s4.st = .validate ∧
                decode (eventKey (s4.setEnv e4) .val) = .ok .valSample ∧
                  ∃ t ts rd, exec .valSample (s4.setEnv e4) = .next t ∧
                    t.presented = some (.sample ts rd (s.env.pins.hostTime % 2 ^ s.params.htw)) ∧ t.st = .hunt ∧
                      ts = (s3.setEnv e3).bus.data.extractLsb' 0 16 ∧
                        rd = (s3.setEnv e3).bus.data.extractLsb' 16 16)

/-! ## The clock edge -/

/-- A step runs the decoded operation, between clearing the strobe before it and clearing `rq_out` after it (unless it
raised a fault): for an accepted response, for the VALIDATE step and in state 11 (20_memory.md, section 6). -/
def Obligations.StepRunsDecodedOperation : Prop :=
  (∀ (s : State) (e : Event) (i : Instr), Live s → s.rqOut = true → s.bus.valid = true →
      responseEvent s.rqKind s.bus = some e → decode (eventKey s e) = .ok i →
        step s = afterAccept s.nextEnv (exec i { s with outValid := false })) ∧
    (∀ (s : State) (i : Instr), Live s → s.st = .validate → s.rqOut = false → s.bus.valid = false →
      decode (eventKey s .val) = .ok i → step s = afterInternal s.nextEnv (exec i { s with outValid := false })) ∧
    (∀ (s : State) (i : Instr), s.env.pins.rst = false → s.fault = false → s.st = .illegal →
      decode illegalKey = .ok i → step s = afterInternal s.nextEnv (exec i { s with outValid := false }))

/-- R41: the machine right after reset, register by register, in the spec's codes. -/
def Obligations.ResetValues : Prop :=
  State.reset.st.code = 0b00#2 ∧ State.reset.armed = false ∧ State.reset.buf = 0x0000000000#40 ∧ State.reset.cnt = 0#3 ∧
    State.reset.tCap = 0 ∧ State.reset.tmo = 0 ∧ State.reset.fault = false ∧ State.reset.fcode.code = 0b00#2 ∧
      State.reset.rqOut = false ∧ State.reset.rqKind.code = 0b00#2 ∧ State.reset.outValid = false ∧
        State.reset.outKind.code = 0b00#2 ∧ State.reset.smpTs = 0x0000#16 ∧ State.reset.smpRd = 0x0000#16 ∧
          State.reset.smpTime = 0 ∧ State.reset.rejCode.code = 0b000#3 ∧ State.reset.rejCnt = 0#3 ∧
            State.reset.rejData = 0x0000000000#40

/-- R230: one edge with `rst` = 1, from any state whatever, gives every register its reset value. -/
def Obligations.ResetEdge : Prop :=
  ∀ s : State, s.env.pins.rst = true →
    ∃ t, step s = .next t ∧ t.SameRegs State.reset ∧ t.params = s.params

/-- R214: a faulted block keeps its fault until reset, whatever else the edge brings, and changes nothing but the
strobe (R206); reset clears it. -/
def Obligations.FaultHeldUntilReset : Prop :=
  ∀ s : State, s.fault = true →
    (s.env.pins.rst = false → step s = .next { s with outValid := false, env := s.nextEnv }) ∧
      (s.env.pins.rst = true → ∃ t, step s = .next t ∧ t.fault = false)

/-- R208: a response with nothing outstanding faults, in every control state but 11. -/
def Obligations.SpuriousResponseFaults : Prop :=
  ∀ s : State, Live s → s.bus.valid = true → s.rqOut = false →
    step s = .next { s with fault := true, fcode := .spuriousRsp, outValid := false, env := s.nextEnv } ∧
      FCode.spuriousRsp.code = 0b10#2

/-- R209: state 11 (DK row 15) faults at any edge, whatever the pins carry but `rst`; so does VALIDATE with a count above 5
(DK row 13); no state reachable from reset is either. -/
def Obligations.IllegalStateFaultsAtTheEdge : Prop :=
  FCode.illegalState.code = 0b11#2 ∧
  (∀ s : State, s.env.pins.rst = false → s.fault = false → s.st = .illegal →
      firstRow illegalKey = some 15 ∧
        step s = .next { s with fault := true, fcode := .illegalState, outValid := false, env := s.nextEnv }) ∧
    (∀ s : State, Live s → s.st = .validate → 6#3 ≤ s.cnt → s.rqOut = false → s.bus.valid = false →
      firstRow (eventKey s .val) = some 13 ∧
        step s = .next { s with fault := true, fcode := .illegalState, outValid := false, env := s.nextEnv }) ∧
      ∀ s : State, ResetClean s → ParamsFixed s → ∀ n t, stateAfter n s = some t →
        t.st ≠ .illegal ∧ ¬ (t.st = .validate ∧ 6#3 ≤ t.cnt)

/-- R207: a READ response with more bytes than requested selects the operation that raises the fault, and the edge raises
it; the request stays outstanding. -/
def Obligations.CountRangeFaultsAtTheEdge : Prop :=
  FCode.cntRange.code = 0b01#2 ∧ ∀ s : State, Live s → s.rqOut = true → s.bus.valid = true →
    (s.rqKind = .read1 → 2#3 ≤ s.bus.cnt →
      decode (eventKey s (.r1 s.bus.cnt (s.bus.data.extractLsb' 0 8))) =
          .ok (.huntCntfault s.bus.cnt (s.bus.data.extractLsb' 0 8)) ∧
        step s = .next { s with fault := true, fcode := .cntRange, outValid := false, env := s.nextEnv }) ∧
    (s.rqKind = .read5 → 6#3 ≤ s.bus.cnt →
      decode (eventKey s (.r5 s.bus.cnt s.bus.data)) = .ok (.accR5Cntfault s.bus.cnt) ∧
        step s = .next { s with fault := true, fcode := .cntRange, outValid := false, env := s.nextEnv })

/-- R206: an edge that raises a fault leaves every register as it was but `fault`, `fcode` and the strobe, so it emits
nothing and the request keeps its value; the status outputs show the fault; and a faulted block takes no step. -/
def Obligations.FaultEntryIsPrecise : Prop :=
  (∀ s t : State, step s = .next t → s.fault = false → t.fault = true →
      ∃ c : FCode, c ≠ .noFault ∧ t = { s with fault := true, fcode := c, outValid := false, env := s.nextEnv } ∧
        t.outputs.faultO = true ∧ t.outputs.faultCodeO = c.code ∧ t.outputs.outValid = false ∧
          t.outputs.rqValid = s.rqOut) ∧
    ∀ s : State, s.fault = true → s.env.pins.rst = false →
      step s = .next { s with outValid := false, env := s.nextEnv }

/-- R95, with the wiring of R72 and the codes of R80, R81 and R85 to R87: the output wires carry the registers, and every code
of every coded output stands for its one register value. -/
def Obligations.OutputsCarryTheRegisters : Prop :=
  ∀ s : State,
    (s.outputs.rqValid = s.rqOut ∧ s.outputs.faultO = s.fault ∧ s.outputs.outValid = s.outValid ∧
      s.outputs.smpTs = s.smpTs ∧ s.outputs.smpRd = s.smpRd ∧ s.outputs.smpTime = s.smpTime ∧
        s.outputs.rejCnt = s.rejCnt ∧ s.outputs.rejData = s.rejData) ∧
    ((s.outputs.stO = 0b00#2 ↔ s.st = .hunt) ∧ (s.outputs.stO = 0b01#2 ↔ s.st = .accumulate) ∧
      (s.outputs.stO = 0b10#2 ↔ s.st = .validate) ∧ (s.outputs.stO = 0b11#2 ↔ s.st = .illegal)) ∧
    ((s.outputs.rqKindO = 0b00#2 ↔ s.rqKind = .none) ∧ (s.outputs.rqKindO = 0b01#2 ↔ s.rqKind = .read1) ∧
      (s.outputs.rqKindO = 0b10#2 ↔ s.rqKind = .poll) ∧ (s.outputs.rqKindO = 0b11#2 ↔ s.rqKind = .read5)) ∧
    ((s.outputs.faultCodeO = 0b00#2 ↔ s.fcode = .noFault) ∧ (s.outputs.faultCodeO = 0b01#2 ↔ s.fcode = .cntRange) ∧
      (s.outputs.faultCodeO = 0b10#2 ↔ s.fcode = .spuriousRsp) ∧
        (s.outputs.faultCodeO = 0b11#2 ↔ s.fcode = .illegalState)) ∧
    ((s.outputs.outKind = 0b00#2 ↔ s.outKind = .idle) ∧ (s.outputs.outKind = 0b01#2 ↔ s.outKind = .sample) ∧
      (s.outputs.outKind = 0b10#2 ↔ s.outKind = .rejected) ∧ (s.outputs.outKind = 0b11#2 ↔ s.outKind = .reserved)) ∧
    (s.outputs.rejCode = 0b000#3 ↔ s.rejCode = .reserved0) ∧ (s.outputs.rejCode = 0b001#3 ↔ s.rejCode = .shortPacket) ∧
      (s.outputs.rejCode = 0b010#3 ↔ s.rejCode = .badTerminator) ∧
        (s.outputs.rejCode = 0b011#3 ↔ s.rejCode = .unexpectedByte) ∧
          (s.outputs.rejCode = 0b100#3 ↔ s.rejCode = .packetTimeout) ∧
            (0b101#3 ≤ s.outputs.rejCode ↔
              s.rejCode = .reserved5 ∨ s.rejCode = .reserved6 ∨ s.rejCode = .reserved7)

/-- R73: which request an edge issues, that it changes nothing else, and that the request is held while it has no
answer. -/
def Obligations.RequestIssueAndHold : Prop :=
  ∀ s : State, Live s → s.bus.valid = false →
    (s.rqOut = false → s.st = .hunt → s.env.pins.en = true →
        step s = .next { s with outValid := false, rqOut := true, rqKind := .read1, env := s.nextEnv }) ∧
      (s.rqOut = false → s.st = .hunt → s.env.pins.en = false →
        step s = .next { s with outValid := false, env := s.nextEnv }) ∧
      (s.rqOut = false → s.st = .accumulate →
        step s = .next { s with outValid := false, rqOut := true,
                                rqKind := if s.armed then .read5 else .poll, env := s.nextEnv }) ∧
      (s.rqOut = true → step s = .next { s with outValid := false, env := s.nextEnv })

/-- R145, whose precedence is "the spec's reading" (D18), and R144, which the spec marks as derived: VALIDATE with a count of at most 5 ends the frame cycle in HUNT with exactly one outcome: the length check first,
then the end marker. -/
def Obligations.ValidateEndsTheFrameCycle : Prop :=
  ∀ s : State, Live s → s.st = .validate → s.cnt ≤ 5#3 → s.rqOut = false → s.bus.valid = false →
    ∃ t, step s = .next t ∧ t.st = .hunt ∧ t.fault = false ∧
      t.presented = some
        (if s.cnt < 5#3 then .rejected .shortPacket s.cnt s.buf
         else if s.buf.extractLsb' 32 8 = 0x45#8 then .sample (packetTs s.buf) (packetRd s.buf) s.tCap
         else .rejected .badTerminator 5#3 s.buf)

/-! ## Invariants and rules of the whole machine -/

/-- Every edge keeps the invariant, from every state that meets it. -/
def Obligations.StepKeepsInvariant : Prop :=
  ∀ s t : State, s.Inv → step s = .next t → t.Inv

/-- The state after reset meets the invariant. -/
def Obligations.ResetMeetsInvariant : Prop := State.reset.Inv

/-- R42, which the spec marks as derived from the register rules: the five facts hold of every state reachable from reset, whatever the environment does and whatever the
parameters are, in their ranges. -/
def Obligations.ReachableStatesMeetControlRules : Prop :=
  ∀ s : State, ResetClean s → ParamsFixed s → ∀ n t, stateAfter n s = some t →
    t.st ≠ .illegal ∧ (t.armed = true → t.st = .accumulate) ∧ t.cnt ≤ 5#3 ∧
      (t.st = .validate → ∀ i, i < 5 → t.cnt.toNat ≤ i → t.buf.extractLsb' (8 * i) 8 = 0x00#8) ∧ t.rejCnt ≤ 5#3

/-- R107, which the spec marks as derived from the operations' rules: every outcome leaves the block in HUNT, not armed, with no request, so that the next READ1 that delivers the
start marker is HUNT.START. -/
def Obligations.OutcomesResynchronise : Prop :=
  ∀ s t : State, s.Inv → step s = .next t → t.outValid = true →
    t.st = .hunt ∧ t.armed = false ∧ t.rqOut = false ∧ t.fault = false ∧
      decode (eventKey t (.r1 1#3 0x42#8)) = .ok .huntStart

/-- From every state that meets the invariant the edge answers a next state: the model never stops. -/
def Obligations.StepAnswersUnderInvariant : Prop :=
  ∀ s : State, s.Inv → ∃ t, step s = .next t

/-- R246's "no move": no edge changes a parameter. -/
def Obligations.StepKeepsParameters : Prop :=
  ∀ s t : State, step s = .next t → t.params = s.params

/-- A run that meets the launch premises answers at every edge and is never faulted (70_reset_and_hazards.md, sections 3
and 5). -/
def Obligations.LaunchedRunNeverFaults : Prop :=
  ∀ (n : Nat) (s : State), LaunchPremises n s → ∃ t, stateAfter n s = some t ∧ t.fault = false

/-- From a state in which a run has ended, the block takes no step and emits nothing until `en` rises again, as long as the
source keeps its duty and `rst` is low (70_reset_and_hazards.md, section 5). -/
def Obligations.EndedRunIsQuiescent : Prop :=
  ∀ (n : Nat) (s : State), RunEnded s →
    BeforeEachEdge (fun u => u.env.pins.en = false ∧ u.env.pins.rst = false ∧ u.SrcConforms) n s →
      ∃ t, stateAfter n s = some t ∧ emissions n s = [] ∧
        ({ t with outValid := false } : State).SameRegs { s with outValid := false }

/-- What the sinks get of every outcome a step presents (R60, R63, R66, R67), outcome by outcome: a step that presents
nothing gives neither sink anything, an Idle is presented and gives neither sink anything, a sample gives the sample sink
its line, a reject gives the diagnostic sink its category and the lanes below its count; sinks that do not take get
nothing (R65). And in a run with ready sinks they get that of every outcome emitted, in order. -/
def Obligations.ReadySinksRecordTheRun : Prop :=
  (∀ s t : State, step s = .next t → (t.env.pins.sinkTakes = false ∨ t.outValid = false → SinksGet t none none)) ∧
    (∀ s t : State, Live s → step s = .next t → t.env.pins.sinkTakes = true →
      (s.st = .validate → s.rqOut = false → s.bus.valid = false → s.cnt ≤ 5#3 →
        if s.cnt < 5#3 then SinksGet t none (some (.shortPacket, firstLanes s.cnt.toNat s.buf))
        else if s.buf.extractLsb' 32 8 = 0x45#8 then
          SinksGet t
            (some (lineOf (s.buf.extractLsb' 0 8) (s.buf.extractLsb' 8 8) (s.buf.extractLsb' 16 8)
              (s.buf.extractLsb' 24 8) s.tCap)) none
        else SinksGet t none (some (.badTerminator, firstLanes 5 s.buf))) ∧
      (s.rqOut = true → s.rqKind = .read1 → s.bus.valid = true →
        (s.bus.cnt = 0#3 ∨ s.bus.cnt = 1#3 ∧ s.bus.data.extractLsb' 0 8 = 0x0A#8 →
          t.presented = some .idle ∧ SinksGet t none none) ∧
        (s.bus.cnt = 1#3 → s.bus.data.extractLsb' 0 8 ≠ 0x42#8 → s.bus.data.extractLsb' 0 8 ≠ 0x0A#8 →
          SinksGet t none (some (.unexpectedByte, [s.bus.data.extractLsb' 0 8])))) ∧
      (s.rqOut = true → s.rqKind = .poll → s.bus.valid = true → s.bus.avail < 5 → s.params.pktTimeout ≠ 0 →
        s.params.pktTimeout ≤ s.tmo + 1 → SinksGet t none (some (.packetTimeout, [])))) ∧
    ∀ (n : Nat) (s : State), SinkReady n s →
      (recorded n s).filterMap PortOutcome.sampleSink = (emissions n s).filterMap PortOutcome.sampleSink ∧
        (recorded n s).filterMap PortOutcome.diagnosticSink = (emissions n s).filterMap PortOutcome.diagnosticSink

/-- The block never waits on a sink: two edges that differ only in what the sinks do agree on every register
(20_memory.md, section 3). -/
def Obligations.SinksNeverReachARegister : Prop :=
  ∀ (s : State) (v : Bool), s.Inv → SameNextRegs s (withPins s { s.env.pins with sinkTakes := v })

/-- A source that keeps its port duty (R240) never faults the block, from any state that keeps the invariant. -/
def Obligations.ConformingSourceNeverFaults : Prop :=
  ∀ s t : State, s.Inv → s.fault = false → s.SrcConforms → step s = .next t → t.fault = false

/-- HUNT is left only by a READ1 response that delivers exactly the start marker, and then the host time of that edge is
captured and the poll count is 0 (10_state.md R22). -/
def Obligations.HuntLeftOnlyByStartMarker : Prop :=
  ∀ s t : State, s.Inv → s.st = .hunt → step s = .next t → t.st ≠ .hunt →
    AcceptsStart s ∧ t.st = .accumulate ∧ t.tCap = s.env.pins.hostTime % 2 ^ s.params.htw ∧ t.tmo = 0 ∧
      t.armed = false ∧ t.rqOut = false ∧ t.outValid = false

/-- R126 (which the spec marks as derived) and R235: with no packet timeout, an unarmed ACCUMULATE is not left while no POLL reports 5 bytes, and emits
nothing; the source keeps its duty and `rst` is low. -/
def Obligations.UnboundedWaitIsKept : Prop :=
  ∀ s : State, s.Inv → s.params.pktTimeout = 0 → s.st = .accumulate → s.armed = false → s.fault = false →
    s.env.pins.rst = false → s.SrcConforms → (s.bus.valid = true → s.bus.avail < 5) →
      ∃ t, step s = .next t ∧ t.st = .accumulate ∧ t.armed = false ∧ t.fault = false ∧ t.presented = none ∧
        t.SameOutcome s ∧ t.tCap = s.tCap ∧ t.buf = s.buf ∧ t.cnt = s.cnt

/-- R239's last sentence, which the spec marks as derived: the edge after one that emitted an outcome emits none. -/
def Obligations.StrobesAreNeverAdjacent : Prop :=
  ∀ s t : State, s.Inv → s.outValid = true → step s = .next t → t.outValid = false

/-- The captured host time changes only at reset and where the start marker is accepted, and the sample's host time
only ever becomes 0 (reset) or the captured one (R26, R31, R237). -/
def Obligations.HostTimeWritten : Prop :=
  ∀ s t : State, step s = .next t → s.env.pins.rst = false →
    (t.tCap ≠ s.tCap → s.rqOut = true ∧ s.rqKind = .read1 ∧ s.bus.valid = true ∧ s.bus.cnt = 1#3 ∧
      s.bus.data.extractLsb' 0 8 = 0x42#8 ∧ t.tCap = s.env.pins.hostTime % 2 ^ s.params.htw) ∧
    (t.smpTime ≠ s.smpTime → s.st = .validate ∧ t.smpTime = s.tCap)

/-- The sample fields change only at reset and with the sample they show, which VAL.SAMPLE emits; the reject fields only at
reset and with the reject they show (10_state.md, section 3). -/
def Obligations.OutcomeFieldsHeld : Prop :=
  ∀ s t : State, step s = .next t → s.env.pins.rst = false →
    (¬ (t.smpTs = s.smpTs ∧ t.smpRd = s.smpRd ∧ t.smpTime = s.smpTime) →
      decode (eventKey s .val) = .ok .valSample ∧ s.st = .validate ∧
        t.presented = some (.sample t.smpTs t.smpRd t.smpTime)) ∧
    (¬ (t.rejCode = s.rejCode ∧ t.rejCnt = s.rejCnt ∧ t.rejData = s.rejData) →
      t.presented = some (.rejected t.rejCode t.rejCnt t.rejData))

/-- R78: at the edge that accepts the start marker the host time is captured bit for bit; at every other edge it reaches
no register: two edges that differ only in it agree on every register. -/
def Obligations.HostTimeSampledOnlyAtStart : Prop :=
  (∀ s : State, AcceptsStart s →
      ∃ t, step s = .next t ∧ t.tCap = s.env.pins.hostTime % 2 ^ s.params.htw) ∧
    (∀ (s : State) (v : Nat), s.Inv → ¬ AcceptsStart s →
      SameNextRegs s (withPins s { s.env.pins with hostTime := v }))

/-- R101: a READ1 is issued only with `en` = 1; with `en` = 0 and nothing outstanding HUNT issues nothing; `en` is ignored everywhere else: two edges that differ
only in it agree on every register. -/
def Obligations.EnableReadOnlyToIssueRead1 : Prop :=
  (∀ s t : State, step s = .next t → s.rqOut = false → t.rqOut = true → t.rqKind = .read1 →
      s.env.pins.en = true ∧ s.st = .hunt) ∧
    (∀ s : State, Live s → s.st = .hunt → s.rqOut = false → s.bus.valid = false → s.env.pins.en = false →
      step s = .next { s with outValid := false, env := s.nextEnv }) ∧
    (∀ (s : State) (v : Bool), s.Inv → (s.st ≠ .hunt ∨ s.rqOut = true) →
      SameNextRegs s (withPins s { s.env.pins with en := v }))

/-- R59, R91: of a response only the fields its kind carries reach a register: the count and the lanes below it for a READ,
whether the count is at least 5 for a POLL. Two edges whose buses agree on those fields agree on every register. -/
def Obligations.IgnoredBusFieldsReachNoRegister : Prop :=
  ∀ (s : State) (a b : Bus), s.Inv → s.rqOut = true → a.valid = b.valid →
    (s.rqKind ≠ .poll → a.cnt = b.cnt ∧
      ∀ i, i < 5 → i < a.cnt.toNat → a.data.extractLsb' (8 * i) 8 = b.data.extractLsb' (8 * i) 8) →
    (s.rqKind = .poll → (5 ≤ a.avail ↔ 5 ≤ b.avail)) →
      SameNextRegs (withPins s { s.env.pins with src := .wires a }) (withPins s { s.env.pins with src := .wires b })

/-! ## The ideal source, and placing a key -/

/-- R77: what the ideal source answers to each kind of request, and what it leaves in its queue after an edge that is not
reset, on a block neither faulted nor in state 11 (at the other edges the queue is the model's choice, log 14).
`s.env.queue ++ arrivals` is the queue with the bytes that arrive before the edge. -/
def Obligations.IdealSourceAnswers : Prop :=
  ∀ (s : State) (arrivals : List Byte), s.env.pins.src = .ideal arrivals true → s.rqOut = true →
    s.bus.valid = true ∧
    (s.rqKind = .read1 → s.env.queue ++ arrivals = [] → s.bus.cnt = 0#3 ∧ LeavesQueue s []) ∧
    (s.rqKind = .read1 → ∀ b q, s.env.queue ++ arrivals = b :: q →
      s.bus.cnt = 1#3 ∧ s.bus.data.extractLsb' 0 8 = b ∧ LeavesQueue s q) ∧
    (s.rqKind = .poll → s.bus.avail = min (s.env.queue ++ arrivals).length (2 ^ s.params.avw - 1) ∧
      LeavesQueue s (s.env.queue ++ arrivals)) ∧
    (s.rqKind = .read5 → s.bus.cnt.toNat = min 5 (s.env.queue ++ arrivals).length ∧
      (∀ i, i < s.bus.cnt.toNat → (s.env.queue ++ arrivals)[i]? = some (s.bus.data.extractLsb' (8 * i) 8)) ∧
        LeavesQueue s ((s.env.queue ++ arrivals).drop 5))

/-- The very next step after `withFetchWord` runs the operation the decoder reads from the word, for all 2^16 keys and from
any state whose parameters are in range (the model's own placing of a key, log 13). -/
def Obligations.PlacedKeyRuns : Prop :=
  ∀ (s : State) (w : Nat), s.params.Ok →
    ∃ i t, decodeTableWord 16 w = some i ∧
      exec i (s.withFetchWord 16 w).clearStrobe = .next t ∧
        ∃ u, step (s.withFetchWord 16 w) = .next u ∧
          u.SameRegs (if (s.withFetchWord 16 w).rqOut && !t.fault then t.clearRequest else t)

end
end

