-- ==== Sys2Proof/Laws/Decode.lean ====
section
/-! SUPPORT. The fields of a decode key, when a row selects it, and the operation the decoder reads from its fields. -/

set_option Elab.async false

namespace Sys2Proof
section

variable (st : BitVec 2) (armed avok tmo : Bool) (cnt : Count) (kb : Byte)

/-- The fields of a key built from fields are those fields (R88). -/
theorem keyOf_fields :
    keySt (keyOf st armed avok tmo cnt kb) = st ∧ keyArmed (keyOf st armed avok tmo cnt kb) = armed ∧
      keyAvok (keyOf st armed avok tmo cnt kb) = avok ∧ keyTmo (keyOf st armed avok tmo cnt kb) = tmo ∧
        keyCnt (keyOf st armed avok tmo cnt kb) = cnt ∧ keyByte (keyOf st armed avok tmo cnt kb) = kb := by
  refine ⟨?_, ?_, ?_, ?_, ?_, ?_⟩ <;> unfold keyOf
  · unfold keySt; ext j hj; simp only [BitVec.getElem_extractLsb', BitVec.getLsbD_append]; grind
  · simp only [keyArmed, BitVec.getLsbD_append, BitVec.getLsbD_ofBool]; grind
  · simp only [keyAvok, BitVec.getLsbD_append, BitVec.getLsbD_ofBool]; grind
  · simp only [keyTmo, BitVec.getLsbD_append, BitVec.getLsbD_ofBool]; grind
  · unfold keyCnt; ext j hj; simp only [BitVec.getElem_extractLsb', BitVec.getLsbD_append]; grind
  · unfold keyByte; ext j hj; simp only [BitVec.getElem_extractLsb', BitVec.getLsbD_append]; grind

@[simp] theorem keySt_keyOf : keySt (keyOf st armed avok tmo cnt kb) = st := (keyOf_fields ..).1
@[simp] theorem keyArmed_keyOf : keyArmed (keyOf st armed avok tmo cnt kb) = armed := (keyOf_fields ..).2.1
@[simp] theorem keyAvok_keyOf : keyAvok (keyOf st armed avok tmo cnt kb) = avok := (keyOf_fields ..).2.2.1
@[simp] theorem keyTmo_keyOf : keyTmo (keyOf st armed avok tmo cnt kb) = tmo := (keyOf_fields ..).2.2.2.1
@[simp] theorem keyCnt_keyOf : keyCnt (keyOf st armed avok tmo cnt kb) = cnt := (keyOf_fields ..).2.2.2.2.1
@[simp] theorem keyByte_keyOf : keyByte (keyOf st armed avok tmo cnt kb) = kb := (keyOf_fields ..).2.2.2.2.2
end

/-- A key is its fields (R88). -/
theorem keyOf_eta (w : DKey) :
    keyOf (keySt w) (keyArmed w) (keyAvok w) (keyTmo w) (keyCnt w) (keyByte w) = w := by
  unfold keyOf keySt keyArmed keyAvok keyTmo keyCnt keyByte
  apply BitVec.eq_of_getLsbD_eq
  intro j hj
  simp only [BitVec.getLsbD_append, BitVec.getLsbD_extractLsb', BitVec.getLsbD_ofBool]
  interval_cases j <;> simp

/-- Two keys are equal when their fields are. -/
theorem key_ext_iff (v w : DKey) : v = w ↔ keySt v = keySt w ∧ keyArmed v = keyArmed w ∧ keyAvok v = keyAvok w ∧
    keyTmo v = keyTmo w ∧ keyCnt v = keyCnt w ∧ keyByte v = keyByte w := by
  refine ⟨by rintro rfl; simp, fun ⟨a, b, c, d, e, f⟩ => ?_⟩
  rw [← keyOf_eta v, ← keyOf_eta w, a, b, c, d, e, f]

/-- Masking a key masks each field. -/
theorem key_and_fields (v w : DKey) :
    keySt (v &&& w) = keySt v &&& keySt w ∧ keyArmed (v &&& w) = (keyArmed v && keyArmed w) ∧
    keyAvok (v &&& w) = (keyAvok v && keyAvok w) ∧ keyTmo (v &&& w) = (keyTmo v && keyTmo w) ∧
    keyCnt (v &&& w) = keyCnt v &&& keyCnt w ∧ keyByte (v &&& w) = keyByte v &&& keyByte w := by
  refine ⟨?_, ?_, ?_, ?_, ?_, ?_⟩
  · unfold keySt; ext j hj; simp
  · simp [keyArmed]
  · simp [keyAvok]
  · simp [keyTmo]
  · unfold keyCnt; ext j hj; simp
  · unfold keyByte; ext j hj; simp

/-- A row selects a key field by field. -/
theorem selects_iff (r : OpRow) (w : DKey) : r.selects w = true ↔
    keySt w &&& keySt r.mask = keySt r.pattern ∧ (keyArmed w && keyArmed r.mask) = keyArmed r.pattern ∧
    (keyAvok w && keyAvok r.mask) = keyAvok r.pattern ∧ (keyTmo w && keyTmo r.mask) = keyTmo r.pattern ∧
    keyCnt w &&& keyCnt r.mask = keyCnt r.pattern ∧ keyByte w &&& keyByte r.mask = keyByte r.pattern := by
  obtain ⟨a, b, c, d, e, f⟩ := key_and_fields w r.mask
  simp [OpRow.selects, key_ext_iff, a, b, c, d, e, f]

/-- The decoder as a case split on the fields of the key (R90). -/
theorem decode_fields (w : DKey) : decode w = .ok (
    if keySt w = 0b00#2 then
      if keyCnt w = 1#3 then
        if keyByte w = Config.startMarker then .huntStart
        else if keyByte w = Config.newline then .huntNewline else .huntUnexpected (keyByte w)
      else if keyCnt w = 0#3 then .huntTimeout else .huntCntfault (keyCnt w) (keyByte w)
    else if keySt w = 0b01#2 then
      if keyArmed w then if 6#3 ≤ keyCnt w then .accR5Cntfault (keyCnt w) else .accR5Accept (keyCnt w)
      else if keyAvok w then .accPollReady (keyTmo w)
      else if keyTmo w then .accPollTimeout else .accPollWait
    else if keySt w = 0b10#2 then
      if keyCnt w = 5#3 then if keyByte w = Config.endMarker then .valSample else .valBadterm (keyByte w)
      else if 6#3 ≤ keyCnt w then .valCntfault (keyCnt w) (keyByte w) else .valShort (keyCnt w) (keyByte w)
    else .illegalState) := by
  have h6 : ∀ k : Count, (k &&& 6#3 = 6#3) ↔ 6#3 ≤ k := by decide
  have h7 : ∀ k : Count, (k &&& 7#3) = k := by decide
  have h3 : ∀ k : BitVec 2, (k &&& 3#2) = k := by decide
  have hb : ∀ k : Byte, (k &&& 255#8) = k := by intro k; ext j hj; simp; interval_cases j <;> simp
  have e1 : ∀ f, OpRow.selects ⟨0x0142#16, 0xC7FF#16, f⟩ w = decide (keySt w = 0#2 ∧ keyCnt w = 1#3 ∧ keyByte w = 0x42#8) := fun f => by
    rw [Bool.eq_iff_iff, selects_iff, decide_eq_true_iff]; simp [keySt, keyArmed, keyAvok, keyTmo, keyCnt, keyByte, h3, h7, hb]
  have e2 : ∀ f, OpRow.selects ⟨0x010A#16, 0xC7FF#16, f⟩ w = decide (keySt w = 0#2 ∧ keyCnt w = 1#3 ∧ keyByte w = 0x0A#8) := fun f => by
    rw [Bool.eq_iff_iff, selects_iff, decide_eq_true_iff]; simp [keySt, keyArmed, keyAvok, keyTmo, keyCnt, keyByte, h3, h7, hb]
  have e3 : ∀ f, OpRow.selects ⟨0x0100#16, 0xC700#16, f⟩ w = decide (keySt w = 0#2 ∧ keyCnt w = 1#3) := fun f => by
    rw [Bool.eq_iff_iff, selects_iff, decide_eq_true_iff]; simp [keySt, keyArmed, keyAvok, keyTmo, keyCnt, keyByte, h3, h7]
  have e4 : ∀ f, OpRow.selects ⟨0x0000#16, 0xC700#16, f⟩ w = decide (keySt w = 0#2 ∧ keyCnt w = 0#3) := fun f => by
    rw [Bool.eq_iff_iff, selects_iff, decide_eq_true_iff]; simp [keySt, keyArmed, keyAvok, keyTmo, keyCnt, keyByte, h3, h7]
  have e5 : ∀ f, OpRow.selects ⟨0x0000#16, 0xC000#16, f⟩ w = decide (keySt w = 0#2) := fun f => by
    rw [Bool.eq_iff_iff, selects_iff, decide_eq_true_iff]; simp [keySt, keyArmed, keyAvok, keyTmo, keyCnt, keyByte, h3]
  have e6 : ∀ f, OpRow.selects ⟨0x5000#16, 0xF000#16, f⟩ w = decide (keySt w = 1#2 ∧ keyArmed w = false ∧ keyAvok w = true) := fun f => by
    rw [Bool.eq_iff_iff, selects_iff, decide_eq_true_iff]; simp [keySt, keyArmed, keyAvok, keyTmo, keyCnt, keyByte, h3]
  have e7 : ∀ f, OpRow.selects ⟨0x4800#16, 0xF800#16, f⟩ w = decide (keySt w = 1#2 ∧ keyArmed w = false ∧ keyAvok w = false ∧ keyTmo w = true) := fun f => by
    rw [Bool.eq_iff_iff, selects_iff, decide_eq_true_iff]; simp [keySt, keyArmed, keyAvok, keyTmo, keyCnt, keyByte, h3]
  have e8 : ∀ f, OpRow.selects ⟨0x4000#16, 0xF800#16, f⟩ w = decide (keySt w = 1#2 ∧ keyArmed w = false ∧ keyAvok w = false ∧ keyTmo w = false) := fun f => by
    rw [Bool.eq_iff_iff, selects_iff, decide_eq_true_iff]; simp [keySt, keyArmed, keyAvok, keyTmo, keyCnt, keyByte, h3]
  have e9 : ∀ f, OpRow.selects ⟨0x6600#16, 0xE600#16, f⟩ w = decide (keySt w = 1#2 ∧ keyArmed w = true ∧ 6#3 ≤ keyCnt w) := fun f => by
    rw [Bool.eq_iff_iff, selects_iff, decide_eq_true_iff]; simp [keySt, keyArmed, keyAvok, keyTmo, keyCnt, keyByte, h3, h6]
  have e10 : ∀ f, OpRow.selects ⟨0x6000#16, 0xE000#16, f⟩ w = decide (keySt w = 1#2 ∧ keyArmed w = true) := fun f => by
    rw [Bool.eq_iff_iff, selects_iff, decide_eq_true_iff]; simp [keySt, keyArmed, keyAvok, keyTmo, keyCnt, keyByte, h3]
  have e11 : ∀ f, OpRow.selects ⟨0x8545#16, 0xC7FF#16, f⟩ w = decide (keySt w = 2#2 ∧ keyCnt w = 5#3 ∧ keyByte w = 0x45#8) := fun f => by
    rw [Bool.eq_iff_iff, selects_iff, decide_eq_true_iff]; simp [keySt, keyArmed, keyAvok, keyTmo, keyCnt, keyByte, h3, h7, hb]
  have e12 : ∀ f, OpRow.selects ⟨0x8500#16, 0xC700#16, f⟩ w = decide (keySt w = 2#2 ∧ keyCnt w = 5#3) := fun f => by
    rw [Bool.eq_iff_iff, selects_iff, decide_eq_true_iff]; simp [keySt, keyArmed, keyAvok, keyTmo, keyCnt, keyByte, h3, h7]
  have e13 : ∀ f, OpRow.selects ⟨0x8600#16, 0xC600#16, f⟩ w = decide (keySt w = 2#2 ∧ 6#3 ≤ keyCnt w) := fun f => by
    rw [Bool.eq_iff_iff, selects_iff, decide_eq_true_iff]; simp [keySt, keyArmed, keyAvok, keyTmo, keyCnt, keyByte, h3, h6]
  have e14 : ∀ f, OpRow.selects ⟨0x8000#16, 0xC000#16, f⟩ w = decide (keySt w = 2#2) := fun f => by
    rw [Bool.eq_iff_iff, selects_iff, decide_eq_true_iff]; simp [keySt, keyArmed, keyAvok, keyTmo, keyCnt, keyByte, h3]
  have e15 : ∀ f, OpRow.selects ⟨0xC000#16, 0xC000#16, f⟩ w = decide (keySt w = 3#2) := fun f => by
    rw [Bool.eq_iff_iff, selects_iff, decide_eq_true_iff]; simp [keySt, keyArmed, keyAvok, keyTmo, keyCnt, keyByte, h3]
  have hst : ∀ k : BitVec 2, k = 0#2 ∨ k = 1#2 ∨ k = 2#2 ∨ k = 3#2 := by decide
  unfold decode opMap
  simp only [List.find?_cons, List.find?_nil, e1, e2, e3, e4, e5, e6, e7, e8, e9, e10, e11, e12, e13, e14, e15]
  rcases hst (keySt w) with h | h | h | h
  · by_cases c1 : keyCnt w = 1#3
    · by_cases b1 : keyByte w = 0x42#8
      · simp [h, c1, b1, Config.startMarker]
      · by_cases b2 : keyByte w = 0x0A#8
        · simp [h, c1, b2, Config.startMarker, Config.newline]
        · simp [h, c1, b1, b2, Config.startMarker, Config.newline]
    · by_cases c0 : keyCnt w = 0#3 <;> simp [h, c0, c1]
  · cases keyArmed w <;> cases keyAvok w <;> cases ht : keyTmo w <;> by_cases c6 : 6#3 ≤ keyCnt w <;>
      simp [h, ht, c6]
  · by_cases c5 : keyCnt w = 5#3
    · by_cases b1 : keyByte w = 0x45#8 <;> simp [h, c5, b1, Config.endMarker]
    · by_cases c6 : 6#3 ≤ keyCnt w <;> simp [h, c5, c6]
  · simp [h]

namespace Machine

variable (s : State)

/-- The operation of a READ1 response (R92, R102 to R106). -/
theorem decode_eventKey_r1 (k : Count) (b : Byte) :
    decode (eventKey s (.r1 k b)) =
      .ok (if k = 1#3 then
             if b = Config.startMarker then .huntStart
             else if b = Config.newline then .huntNewline else .huntUnexpected b
           else if k = 0#3 then .huntTimeout else .huntCntfault k b) := by
  rw [eventKey, decode_fields]
  simp only [keySt_keyOf, keyCnt_keyOf, keyByte_keyOf, CtlState.code, if_true]
  by_cases h1 : k = 1#3
  · simp [h1]
  · by_cases h0 : k = 0#3 <;> simp [h0, h1]

/-- The operation of a POLL response (R121 to R123). -/
theorem decode_eventKey_poll (a : Nat) :
    decode (eventKey s (.poll a)) =
      .ok (if avok a then .accPollReady (tmoFires s.params s.tmo)
           else if tmoFires s.params s.tmo then .accPollTimeout else .accPollWait) := by
  rw [eventKey, decode_fields]
  simp [CtlState.code]

/-- The operation of a READ5 response (R124, R125). -/
theorem decode_eventKey_r5 (k : Count) (d : Lanes) :
    decode (eventKey s (.r5 k d)) = .ok (if 6#3 ≤ k then .accR5Cntfault k else .accR5Accept k) := by
  rw [eventKey, decode_fields]
  simp [CtlState.code]

/-- The operation of the VALIDATE tick (R141 to R143, R209). -/
theorem decode_eventKey_val :
    decode (eventKey s .val) =
      .ok (if s.cnt = 5#3 then
             if lane s.buf 4 = Config.endMarker then .valSample else .valBadterm (lane s.buf 4)
           else if 6#3 ≤ s.cnt then .valCntfault s.cnt (lane s.buf 4) else .valShort s.cnt (lane s.buf 4)) := by
  rw [eventKey, decode_fields]
  simp [CtlState.code]

/-- The operation of state 11 (R209). -/
theorem decode_illegalKey : decode illegalKey = .ok .illegalState := by
  decide

end Machine

end Sys2Proof
end

