-- ==== Sys2Proof/Laws/State.lean ====
section
/-! SUPPORT. What each named update of the state leaves in each field: one lemma per field per update. -/

set_option Elab.async false

namespace Sys2Proof.Machine

variable (s : State)

/-! ## `setSt` -/

@[simp] theorem State.setSt_st (x : CtlState) : (s.setSt x).st = x := rfl
@[simp] theorem State.setSt_armed (x : CtlState) : (s.setSt x).armed = s.armed := rfl
@[simp] theorem State.setSt_buf (x : CtlState) : (s.setSt x).buf = s.buf := rfl
@[simp] theorem State.setSt_cnt (x : CtlState) : (s.setSt x).cnt = s.cnt := rfl
@[simp] theorem State.setSt_tCap (x : CtlState) : (s.setSt x).tCap = s.tCap := rfl
@[simp] theorem State.setSt_tmo (x : CtlState) : (s.setSt x).tmo = s.tmo := rfl
@[simp] theorem State.setSt_fault (x : CtlState) : (s.setSt x).fault = s.fault := rfl
@[simp] theorem State.setSt_fcode (x : CtlState) : (s.setSt x).fcode = s.fcode := rfl
@[simp] theorem State.setSt_rqOut (x : CtlState) : (s.setSt x).rqOut = s.rqOut := rfl
@[simp] theorem State.setSt_rqKind (x : CtlState) : (s.setSt x).rqKind = s.rqKind := rfl
@[simp] theorem State.setSt_outValid (x : CtlState) : (s.setSt x).outValid = s.outValid := rfl
@[simp] theorem State.setSt_outKind (x : CtlState) : (s.setSt x).outKind = s.outKind := rfl
@[simp] theorem State.setSt_smpTs (x : CtlState) : (s.setSt x).smpTs = s.smpTs := rfl
@[simp] theorem State.setSt_smpRd (x : CtlState) : (s.setSt x).smpRd = s.smpRd := rfl
@[simp] theorem State.setSt_smpTime (x : CtlState) : (s.setSt x).smpTime = s.smpTime := rfl
@[simp] theorem State.setSt_rejCode (x : CtlState) : (s.setSt x).rejCode = s.rejCode := rfl
@[simp] theorem State.setSt_rejCnt (x : CtlState) : (s.setSt x).rejCnt = s.rejCnt := rfl
@[simp] theorem State.setSt_rejData (x : CtlState) : (s.setSt x).rejData = s.rejData := rfl
@[simp] theorem State.setSt_params (x : CtlState) : (s.setSt x).params = s.params := rfl
@[simp] theorem State.setSt_env (x : CtlState) : (s.setSt x).env = s.env := rfl

/-! ## `setArmed` -/

@[simp] theorem State.setArmed_st (b : Bool) : (s.setArmed b).st = s.st := rfl
@[simp] theorem State.setArmed_armed (b : Bool) : (s.setArmed b).armed = b := rfl
@[simp] theorem State.setArmed_buf (b : Bool) : (s.setArmed b).buf = s.buf := rfl
@[simp] theorem State.setArmed_cnt (b : Bool) : (s.setArmed b).cnt = s.cnt := rfl
@[simp] theorem State.setArmed_tCap (b : Bool) : (s.setArmed b).tCap = s.tCap := rfl
@[simp] theorem State.setArmed_tmo (b : Bool) : (s.setArmed b).tmo = s.tmo := rfl
@[simp] theorem State.setArmed_fault (b : Bool) : (s.setArmed b).fault = s.fault := rfl
@[simp] theorem State.setArmed_fcode (b : Bool) : (s.setArmed b).fcode = s.fcode := rfl
@[simp] theorem State.setArmed_rqOut (b : Bool) : (s.setArmed b).rqOut = s.rqOut := rfl
@[simp] theorem State.setArmed_rqKind (b : Bool) : (s.setArmed b).rqKind = s.rqKind := rfl
@[simp] theorem State.setArmed_outValid (b : Bool) : (s.setArmed b).outValid = s.outValid := rfl
@[simp] theorem State.setArmed_outKind (b : Bool) : (s.setArmed b).outKind = s.outKind := rfl
@[simp] theorem State.setArmed_smpTs (b : Bool) : (s.setArmed b).smpTs = s.smpTs := rfl
@[simp] theorem State.setArmed_smpRd (b : Bool) : (s.setArmed b).smpRd = s.smpRd := rfl
@[simp] theorem State.setArmed_smpTime (b : Bool) : (s.setArmed b).smpTime = s.smpTime := rfl
@[simp] theorem State.setArmed_rejCode (b : Bool) : (s.setArmed b).rejCode = s.rejCode := rfl
@[simp] theorem State.setArmed_rejCnt (b : Bool) : (s.setArmed b).rejCnt = s.rejCnt := rfl
@[simp] theorem State.setArmed_rejData (b : Bool) : (s.setArmed b).rejData = s.rejData := rfl
@[simp] theorem State.setArmed_params (b : Bool) : (s.setArmed b).params = s.params := rfl
@[simp] theorem State.setArmed_env (b : Bool) : (s.setArmed b).env = s.env := rfl

/-! ## `setTmo` -/

@[simp] theorem State.setTmo_st (n : Nat) : (s.setTmo n).st = s.st := rfl
@[simp] theorem State.setTmo_armed (n : Nat) : (s.setTmo n).armed = s.armed := rfl
@[simp] theorem State.setTmo_buf (n : Nat) : (s.setTmo n).buf = s.buf := rfl
@[simp] theorem State.setTmo_cnt (n : Nat) : (s.setTmo n).cnt = s.cnt := rfl
@[simp] theorem State.setTmo_tCap (n : Nat) : (s.setTmo n).tCap = s.tCap := rfl
@[simp] theorem State.setTmo_tmo (n : Nat) : (s.setTmo n).tmo = n := rfl
@[simp] theorem State.setTmo_fault (n : Nat) : (s.setTmo n).fault = s.fault := rfl
@[simp] theorem State.setTmo_fcode (n : Nat) : (s.setTmo n).fcode = s.fcode := rfl
@[simp] theorem State.setTmo_rqOut (n : Nat) : (s.setTmo n).rqOut = s.rqOut := rfl
@[simp] theorem State.setTmo_rqKind (n : Nat) : (s.setTmo n).rqKind = s.rqKind := rfl
@[simp] theorem State.setTmo_outValid (n : Nat) : (s.setTmo n).outValid = s.outValid := rfl
@[simp] theorem State.setTmo_outKind (n : Nat) : (s.setTmo n).outKind = s.outKind := rfl
@[simp] theorem State.setTmo_smpTs (n : Nat) : (s.setTmo n).smpTs = s.smpTs := rfl
@[simp] theorem State.setTmo_smpRd (n : Nat) : (s.setTmo n).smpRd = s.smpRd := rfl
@[simp] theorem State.setTmo_smpTime (n : Nat) : (s.setTmo n).smpTime = s.smpTime := rfl
@[simp] theorem State.setTmo_rejCode (n : Nat) : (s.setTmo n).rejCode = s.rejCode := rfl
@[simp] theorem State.setTmo_rejCnt (n : Nat) : (s.setTmo n).rejCnt = s.rejCnt := rfl
@[simp] theorem State.setTmo_rejData (n : Nat) : (s.setTmo n).rejData = s.rejData := rfl
@[simp] theorem State.setTmo_params (n : Nat) : (s.setTmo n).params = s.params := rfl
@[simp] theorem State.setTmo_env (n : Nat) : (s.setTmo n).env = s.env := rfl

/-! ## `setTCap` -/

@[simp] theorem State.setTCap_st (n : Nat) : (s.setTCap n).st = s.st := rfl
@[simp] theorem State.setTCap_armed (n : Nat) : (s.setTCap n).armed = s.armed := rfl
@[simp] theorem State.setTCap_buf (n : Nat) : (s.setTCap n).buf = s.buf := rfl
@[simp] theorem State.setTCap_cnt (n : Nat) : (s.setTCap n).cnt = s.cnt := rfl
@[simp] theorem State.setTCap_tCap (n : Nat) : (s.setTCap n).tCap = n := rfl
@[simp] theorem State.setTCap_tmo (n : Nat) : (s.setTCap n).tmo = s.tmo := rfl
@[simp] theorem State.setTCap_fault (n : Nat) : (s.setTCap n).fault = s.fault := rfl
@[simp] theorem State.setTCap_fcode (n : Nat) : (s.setTCap n).fcode = s.fcode := rfl
@[simp] theorem State.setTCap_rqOut (n : Nat) : (s.setTCap n).rqOut = s.rqOut := rfl
@[simp] theorem State.setTCap_rqKind (n : Nat) : (s.setTCap n).rqKind = s.rqKind := rfl
@[simp] theorem State.setTCap_outValid (n : Nat) : (s.setTCap n).outValid = s.outValid := rfl
@[simp] theorem State.setTCap_outKind (n : Nat) : (s.setTCap n).outKind = s.outKind := rfl
@[simp] theorem State.setTCap_smpTs (n : Nat) : (s.setTCap n).smpTs = s.smpTs := rfl
@[simp] theorem State.setTCap_smpRd (n : Nat) : (s.setTCap n).smpRd = s.smpRd := rfl
@[simp] theorem State.setTCap_smpTime (n : Nat) : (s.setTCap n).smpTime = s.smpTime := rfl
@[simp] theorem State.setTCap_rejCode (n : Nat) : (s.setTCap n).rejCode = s.rejCode := rfl
@[simp] theorem State.setTCap_rejCnt (n : Nat) : (s.setTCap n).rejCnt = s.rejCnt := rfl
@[simp] theorem State.setTCap_rejData (n : Nat) : (s.setTCap n).rejData = s.rejData := rfl
@[simp] theorem State.setTCap_params (n : Nat) : (s.setTCap n).params = s.params := rfl
@[simp] theorem State.setTCap_env (n : Nat) : (s.setTCap n).env = s.env := rfl

/-! ## `clearStrobe` -/

@[simp] theorem State.clearStrobe_st : (s.clearStrobe).st = s.st := rfl
@[simp] theorem State.clearStrobe_armed : (s.clearStrobe).armed = s.armed := rfl
@[simp] theorem State.clearStrobe_buf : (s.clearStrobe).buf = s.buf := rfl
@[simp] theorem State.clearStrobe_cnt : (s.clearStrobe).cnt = s.cnt := rfl
@[simp] theorem State.clearStrobe_tCap : (s.clearStrobe).tCap = s.tCap := rfl
@[simp] theorem State.clearStrobe_tmo : (s.clearStrobe).tmo = s.tmo := rfl
@[simp] theorem State.clearStrobe_fault : (s.clearStrobe).fault = s.fault := rfl
@[simp] theorem State.clearStrobe_fcode : (s.clearStrobe).fcode = s.fcode := rfl
@[simp] theorem State.clearStrobe_rqOut : (s.clearStrobe).rqOut = s.rqOut := rfl
@[simp] theorem State.clearStrobe_rqKind : (s.clearStrobe).rqKind = s.rqKind := rfl
@[simp] theorem State.clearStrobe_outValid : (s.clearStrobe).outValid = false := rfl
@[simp] theorem State.clearStrobe_outKind : (s.clearStrobe).outKind = s.outKind := rfl
@[simp] theorem State.clearStrobe_smpTs : (s.clearStrobe).smpTs = s.smpTs := rfl
@[simp] theorem State.clearStrobe_smpRd : (s.clearStrobe).smpRd = s.smpRd := rfl
@[simp] theorem State.clearStrobe_smpTime : (s.clearStrobe).smpTime = s.smpTime := rfl
@[simp] theorem State.clearStrobe_rejCode : (s.clearStrobe).rejCode = s.rejCode := rfl
@[simp] theorem State.clearStrobe_rejCnt : (s.clearStrobe).rejCnt = s.rejCnt := rfl
@[simp] theorem State.clearStrobe_rejData : (s.clearStrobe).rejData = s.rejData := rfl
@[simp] theorem State.clearStrobe_params : (s.clearStrobe).params = s.params := rfl
@[simp] theorem State.clearStrobe_env : (s.clearStrobe).env = s.env := rfl

/-! ## `request` -/

@[simp] theorem State.request_st (k : ReqKind) : (s.request k).st = s.st := rfl
@[simp] theorem State.request_armed (k : ReqKind) : (s.request k).armed = s.armed := rfl
@[simp] theorem State.request_buf (k : ReqKind) : (s.request k).buf = s.buf := rfl
@[simp] theorem State.request_cnt (k : ReqKind) : (s.request k).cnt = s.cnt := rfl
@[simp] theorem State.request_tCap (k : ReqKind) : (s.request k).tCap = s.tCap := rfl
@[simp] theorem State.request_tmo (k : ReqKind) : (s.request k).tmo = s.tmo := rfl
@[simp] theorem State.request_fault (k : ReqKind) : (s.request k).fault = s.fault := rfl
@[simp] theorem State.request_fcode (k : ReqKind) : (s.request k).fcode = s.fcode := rfl
@[simp] theorem State.request_rqOut (k : ReqKind) : (s.request k).rqOut = true := rfl
@[simp] theorem State.request_rqKind (k : ReqKind) : (s.request k).rqKind = k := rfl
@[simp] theorem State.request_outValid (k : ReqKind) : (s.request k).outValid = s.outValid := rfl
@[simp] theorem State.request_outKind (k : ReqKind) : (s.request k).outKind = s.outKind := rfl
@[simp] theorem State.request_smpTs (k : ReqKind) : (s.request k).smpTs = s.smpTs := rfl
@[simp] theorem State.request_smpRd (k : ReqKind) : (s.request k).smpRd = s.smpRd := rfl
@[simp] theorem State.request_smpTime (k : ReqKind) : (s.request k).smpTime = s.smpTime := rfl
@[simp] theorem State.request_rejCode (k : ReqKind) : (s.request k).rejCode = s.rejCode := rfl
@[simp] theorem State.request_rejCnt (k : ReqKind) : (s.request k).rejCnt = s.rejCnt := rfl
@[simp] theorem State.request_rejData (k : ReqKind) : (s.request k).rejData = s.rejData := rfl
@[simp] theorem State.request_params (k : ReqKind) : (s.request k).params = s.params := rfl
@[simp] theorem State.request_env (k : ReqKind) : (s.request k).env = s.env := rfl

/-! ## `clearRequest` -/

@[simp] theorem State.clearRequest_st : (s.clearRequest).st = s.st := rfl
@[simp] theorem State.clearRequest_armed : (s.clearRequest).armed = s.armed := rfl
@[simp] theorem State.clearRequest_buf : (s.clearRequest).buf = s.buf := rfl
@[simp] theorem State.clearRequest_cnt : (s.clearRequest).cnt = s.cnt := rfl
@[simp] theorem State.clearRequest_tCap : (s.clearRequest).tCap = s.tCap := rfl
@[simp] theorem State.clearRequest_tmo : (s.clearRequest).tmo = s.tmo := rfl
@[simp] theorem State.clearRequest_fault : (s.clearRequest).fault = s.fault := rfl
@[simp] theorem State.clearRequest_fcode : (s.clearRequest).fcode = s.fcode := rfl
@[simp] theorem State.clearRequest_rqOut : (s.clearRequest).rqOut = false := rfl
@[simp] theorem State.clearRequest_rqKind : (s.clearRequest).rqKind = s.rqKind := rfl
@[simp] theorem State.clearRequest_outValid : (s.clearRequest).outValid = s.outValid := rfl
@[simp] theorem State.clearRequest_outKind : (s.clearRequest).outKind = s.outKind := rfl
@[simp] theorem State.clearRequest_smpTs : (s.clearRequest).smpTs = s.smpTs := rfl
@[simp] theorem State.clearRequest_smpRd : (s.clearRequest).smpRd = s.smpRd := rfl
@[simp] theorem State.clearRequest_smpTime : (s.clearRequest).smpTime = s.smpTime := rfl
@[simp] theorem State.clearRequest_rejCode : (s.clearRequest).rejCode = s.rejCode := rfl
@[simp] theorem State.clearRequest_rejCnt : (s.clearRequest).rejCnt = s.rejCnt := rfl
@[simp] theorem State.clearRequest_rejData : (s.clearRequest).rejData = s.rejData := rfl
@[simp] theorem State.clearRequest_params : (s.clearRequest).params = s.params := rfl
@[simp] theorem State.clearRequest_env : (s.clearRequest).env = s.env := rfl

/-! ## `setEnv` -/

@[simp] theorem State.setEnv_st (e : Env) : (s.setEnv e).st = s.st := rfl
@[simp] theorem State.setEnv_armed (e : Env) : (s.setEnv e).armed = s.armed := rfl
@[simp] theorem State.setEnv_buf (e : Env) : (s.setEnv e).buf = s.buf := rfl
@[simp] theorem State.setEnv_cnt (e : Env) : (s.setEnv e).cnt = s.cnt := rfl
@[simp] theorem State.setEnv_tCap (e : Env) : (s.setEnv e).tCap = s.tCap := rfl
@[simp] theorem State.setEnv_tmo (e : Env) : (s.setEnv e).tmo = s.tmo := rfl
@[simp] theorem State.setEnv_fault (e : Env) : (s.setEnv e).fault = s.fault := rfl
@[simp] theorem State.setEnv_fcode (e : Env) : (s.setEnv e).fcode = s.fcode := rfl
@[simp] theorem State.setEnv_rqOut (e : Env) : (s.setEnv e).rqOut = s.rqOut := rfl
@[simp] theorem State.setEnv_rqKind (e : Env) : (s.setEnv e).rqKind = s.rqKind := rfl
@[simp] theorem State.setEnv_outValid (e : Env) : (s.setEnv e).outValid = s.outValid := rfl
@[simp] theorem State.setEnv_outKind (e : Env) : (s.setEnv e).outKind = s.outKind := rfl
@[simp] theorem State.setEnv_smpTs (e : Env) : (s.setEnv e).smpTs = s.smpTs := rfl
@[simp] theorem State.setEnv_smpRd (e : Env) : (s.setEnv e).smpRd = s.smpRd := rfl
@[simp] theorem State.setEnv_smpTime (e : Env) : (s.setEnv e).smpTime = s.smpTime := rfl
@[simp] theorem State.setEnv_rejCode (e : Env) : (s.setEnv e).rejCode = s.rejCode := rfl
@[simp] theorem State.setEnv_rejCnt (e : Env) : (s.setEnv e).rejCnt = s.rejCnt := rfl
@[simp] theorem State.setEnv_rejData (e : Env) : (s.setEnv e).rejData = s.rejData := rfl
@[simp] theorem State.setEnv_params (e : Env) : (s.setEnv e).params = s.params := rfl
@[simp] theorem State.setEnv_env (e : Env) : (s.setEnv e).env = e := rfl

/-! ## `latchPacket` -/

@[simp] theorem State.latchPacket_st (k : Count) (d : Lanes) : (s.latchPacket k d).st = s.st := rfl
@[simp] theorem State.latchPacket_armed (k : Count) (d : Lanes) : (s.latchPacket k d).armed = s.armed := rfl
@[simp] theorem State.latchPacket_buf (k : Count) (d : Lanes) : (s.latchPacket k d).buf = maskLanes k d := rfl
@[simp] theorem State.latchPacket_cnt (k : Count) (d : Lanes) : (s.latchPacket k d).cnt = k := rfl
@[simp] theorem State.latchPacket_tCap (k : Count) (d : Lanes) : (s.latchPacket k d).tCap = s.tCap := rfl
@[simp] theorem State.latchPacket_tmo (k : Count) (d : Lanes) : (s.latchPacket k d).tmo = s.tmo := rfl
@[simp] theorem State.latchPacket_fault (k : Count) (d : Lanes) : (s.latchPacket k d).fault = s.fault := rfl
@[simp] theorem State.latchPacket_fcode (k : Count) (d : Lanes) : (s.latchPacket k d).fcode = s.fcode := rfl
@[simp] theorem State.latchPacket_rqOut (k : Count) (d : Lanes) : (s.latchPacket k d).rqOut = s.rqOut := rfl
@[simp] theorem State.latchPacket_rqKind (k : Count) (d : Lanes) : (s.latchPacket k d).rqKind = s.rqKind := rfl
@[simp] theorem State.latchPacket_outValid (k : Count) (d : Lanes) : (s.latchPacket k d).outValid = s.outValid := rfl
@[simp] theorem State.latchPacket_outKind (k : Count) (d : Lanes) : (s.latchPacket k d).outKind = s.outKind := rfl
@[simp] theorem State.latchPacket_smpTs (k : Count) (d : Lanes) : (s.latchPacket k d).smpTs = s.smpTs := rfl
@[simp] theorem State.latchPacket_smpRd (k : Count) (d : Lanes) : (s.latchPacket k d).smpRd = s.smpRd := rfl
@[simp] theorem State.latchPacket_smpTime (k : Count) (d : Lanes) : (s.latchPacket k d).smpTime = s.smpTime := rfl
@[simp] theorem State.latchPacket_rejCode (k : Count) (d : Lanes) : (s.latchPacket k d).rejCode = s.rejCode := rfl
@[simp] theorem State.latchPacket_rejCnt (k : Count) (d : Lanes) : (s.latchPacket k d).rejCnt = s.rejCnt := rfl
@[simp] theorem State.latchPacket_rejData (k : Count) (d : Lanes) : (s.latchPacket k d).rejData = s.rejData := rfl
@[simp] theorem State.latchPacket_params (k : Count) (d : Lanes) : (s.latchPacket k d).params = s.params := rfl
@[simp] theorem State.latchPacket_env (k : Count) (d : Lanes) : (s.latchPacket k d).env = s.env := rfl

/-! ## `raiseFault` -/

@[simp] theorem State.raiseFault_st (c : FCode) : (s.raiseFault c).st = s.st := rfl
@[simp] theorem State.raiseFault_armed (c : FCode) : (s.raiseFault c).armed = s.armed := rfl
@[simp] theorem State.raiseFault_buf (c : FCode) : (s.raiseFault c).buf = s.buf := rfl
@[simp] theorem State.raiseFault_cnt (c : FCode) : (s.raiseFault c).cnt = s.cnt := rfl
@[simp] theorem State.raiseFault_tCap (c : FCode) : (s.raiseFault c).tCap = s.tCap := rfl
@[simp] theorem State.raiseFault_tmo (c : FCode) : (s.raiseFault c).tmo = s.tmo := rfl
@[simp] theorem State.raiseFault_fault (c : FCode) : (s.raiseFault c).fault = true := rfl
@[simp] theorem State.raiseFault_fcode (c : FCode) : (s.raiseFault c).fcode = c := rfl
@[simp] theorem State.raiseFault_rqOut (c : FCode) : (s.raiseFault c).rqOut = s.rqOut := rfl
@[simp] theorem State.raiseFault_rqKind (c : FCode) : (s.raiseFault c).rqKind = s.rqKind := rfl
@[simp] theorem State.raiseFault_outValid (c : FCode) : (s.raiseFault c).outValid = false := rfl
@[simp] theorem State.raiseFault_outKind (c : FCode) : (s.raiseFault c).outKind = s.outKind := rfl
@[simp] theorem State.raiseFault_smpTs (c : FCode) : (s.raiseFault c).smpTs = s.smpTs := rfl
@[simp] theorem State.raiseFault_smpRd (c : FCode) : (s.raiseFault c).smpRd = s.smpRd := rfl
@[simp] theorem State.raiseFault_smpTime (c : FCode) : (s.raiseFault c).smpTime = s.smpTime := rfl
@[simp] theorem State.raiseFault_rejCode (c : FCode) : (s.raiseFault c).rejCode = s.rejCode := rfl
@[simp] theorem State.raiseFault_rejCnt (c : FCode) : (s.raiseFault c).rejCnt = s.rejCnt := rfl
@[simp] theorem State.raiseFault_rejData (c : FCode) : (s.raiseFault c).rejData = s.rejData := rfl
@[simp] theorem State.raiseFault_params (c : FCode) : (s.raiseFault c).params = s.params := rfl
@[simp] theorem State.raiseFault_env (c : FCode) : (s.raiseFault c).env = s.env := rfl

/-! ## `emit` -/

@[simp] theorem State.emit_st (o : PortOutcome) : (s.emit o).st = s.st := by cases o <;> rfl
@[simp] theorem State.emit_armed (o : PortOutcome) : (s.emit o).armed = s.armed := by cases o <;> rfl
@[simp] theorem State.emit_buf (o : PortOutcome) : (s.emit o).buf = s.buf := by cases o <;> rfl
@[simp] theorem State.emit_cnt (o : PortOutcome) : (s.emit o).cnt = s.cnt := by cases o <;> rfl
@[simp] theorem State.emit_tCap (o : PortOutcome) : (s.emit o).tCap = s.tCap := by cases o <;> rfl
@[simp] theorem State.emit_tmo (o : PortOutcome) : (s.emit o).tmo = s.tmo := by cases o <;> rfl
@[simp] theorem State.emit_fault (o : PortOutcome) : (s.emit o).fault = s.fault := by cases o <;> rfl
@[simp] theorem State.emit_fcode (o : PortOutcome) : (s.emit o).fcode = s.fcode := by cases o <;> rfl
@[simp] theorem State.emit_rqOut (o : PortOutcome) : (s.emit o).rqOut = s.rqOut := by cases o <;> rfl
@[simp] theorem State.emit_rqKind (o : PortOutcome) : (s.emit o).rqKind = s.rqKind := by cases o <;> rfl
@[simp] theorem State.emit_outValid (o : PortOutcome) : (s.emit o).outValid = true := by cases o <;> rfl
@[simp] theorem State.emit_outKind (o : PortOutcome) : (s.emit o).outKind = o.kind := by cases o <;> rfl
@[simp] theorem State.emit_params (o : PortOutcome) : (s.emit o).params = s.params := by cases o <;> rfl
@[simp] theorem State.emit_env (o : PortOutcome) : (s.emit o).env = s.env := by cases o <;> rfl

/-! ## `emit`: the fields of the outcome port -/

@[simp] theorem State.emit_idle_smpTs : (s.emit .idle).smpTs = s.smpTs := rfl
@[simp] theorem State.emit_sample_smpTs (ts rd : Half) (t : Nat) : (s.emit (.sample ts rd t)).smpTs = ts := rfl
@[simp] theorem State.emit_rejected_smpTs (c : RejCode) (k : Count) (d : Lanes) : (s.emit (.rejected c k d)).smpTs = s.smpTs := rfl
@[simp] theorem State.emit_idle_smpRd : (s.emit .idle).smpRd = s.smpRd := rfl
@[simp] theorem State.emit_sample_smpRd (ts rd : Half) (t : Nat) : (s.emit (.sample ts rd t)).smpRd = rd := rfl
@[simp] theorem State.emit_rejected_smpRd (c : RejCode) (k : Count) (d : Lanes) : (s.emit (.rejected c k d)).smpRd = s.smpRd := rfl
@[simp] theorem State.emit_idle_smpTime : (s.emit .idle).smpTime = s.smpTime := rfl
@[simp] theorem State.emit_sample_smpTime (ts rd : Half) (t : Nat) : (s.emit (.sample ts rd t)).smpTime = t := rfl
@[simp] theorem State.emit_rejected_smpTime (c : RejCode) (k : Count) (d : Lanes) : (s.emit (.rejected c k d)).smpTime = s.smpTime := rfl
@[simp] theorem State.emit_idle_rejCode : (s.emit .idle).rejCode = s.rejCode := rfl
@[simp] theorem State.emit_sample_rejCode (ts rd : Half) (t : Nat) : (s.emit (.sample ts rd t)).rejCode = s.rejCode := rfl
@[simp] theorem State.emit_rejected_rejCode (c : RejCode) (k : Count) (d : Lanes) : (s.emit (.rejected c k d)).rejCode = c := rfl
@[simp] theorem State.emit_idle_rejCnt : (s.emit .idle).rejCnt = s.rejCnt := rfl
@[simp] theorem State.emit_sample_rejCnt (ts rd : Half) (t : Nat) : (s.emit (.sample ts rd t)).rejCnt = s.rejCnt := rfl
@[simp] theorem State.emit_rejected_rejCnt (c : RejCode) (k : Count) (d : Lanes) : (s.emit (.rejected c k d)).rejCnt = k := rfl
@[simp] theorem State.emit_idle_rejData : (s.emit .idle).rejData = s.rejData := rfl
@[simp] theorem State.emit_sample_rejData (ts rd : Half) (t : Nat) : (s.emit (.sample ts rd t)).rejData = s.rejData := rfl
@[simp] theorem State.emit_rejected_rejData (c : RejCode) (k : Count) (d : Lanes) : (s.emit (.rejected c k d)).rejData = d := rfl

/-! ## `resetRegs` -/

@[simp] theorem State.resetRegs_st : s.resetRegs.st = .hunt := rfl
@[simp] theorem State.resetRegs_armed : s.resetRegs.armed = false := rfl
@[simp] theorem State.resetRegs_buf : s.resetRegs.buf = 0 := rfl
@[simp] theorem State.resetRegs_cnt : s.resetRegs.cnt = 0 := rfl
@[simp] theorem State.resetRegs_tCap : s.resetRegs.tCap = 0 := rfl
@[simp] theorem State.resetRegs_tmo : s.resetRegs.tmo = 0 := rfl
@[simp] theorem State.resetRegs_fault : s.resetRegs.fault = false := rfl
@[simp] theorem State.resetRegs_fcode : s.resetRegs.fcode = .noFault := rfl
@[simp] theorem State.resetRegs_rqOut : s.resetRegs.rqOut = false := rfl
@[simp] theorem State.resetRegs_rqKind : s.resetRegs.rqKind = .none := rfl
@[simp] theorem State.resetRegs_outValid : s.resetRegs.outValid = false := rfl
@[simp] theorem State.resetRegs_outKind : s.resetRegs.outKind = .idle := rfl
@[simp] theorem State.resetRegs_smpTs : s.resetRegs.smpTs = 0 := rfl
@[simp] theorem State.resetRegs_smpRd : s.resetRegs.smpRd = 0 := rfl
@[simp] theorem State.resetRegs_smpTime : s.resetRegs.smpTime = 0 := rfl
@[simp] theorem State.resetRegs_rejCode : s.resetRegs.rejCode = .reserved0 := rfl
@[simp] theorem State.resetRegs_rejCnt : s.resetRegs.rejCnt = 0 := rfl
@[simp] theorem State.resetRegs_rejData : s.resetRegs.rejData = 0 := rfl
@[simp] theorem State.resetRegs_params : s.resetRegs.params = s.params := rfl
@[simp] theorem State.resetRegs_env : s.resetRegs.env = s.env := rfl

end Sys2Proof.Machine
end

