-- ==== Sys2Proof/Laws/Ops.lean ====
section
/-! SUPPORT. What the shared operations do: lanes and packing, the field extractor, latching, presenting an outcome, the input bus. -/

set_option Elab.async false

namespace Sys2Proof.Machine

/-! ## Lanes -/

/-- A lane is its byte, bit by bit. -/
theorem lane_getLsbD (d : Lanes) (i j : Nat) : (lane d i).getLsbD j = (decide (j < 8) && d.getLsbD (8 * i + j)) := by
  simp [lane, BitVec.getLsbD_extractLsb']

/-- The five lanes of packed bytes are those bytes, the first in lane 0 (R54). -/
theorem lane_packLanes (b0 b1 b2 b3 b4 : Byte) :
    lane (packLanes b0 b1 b2 b3 b4) 0 = b0 ∧ lane (packLanes b0 b1 b2 b3 b4) 1 = b1 ∧
      lane (packLanes b0 b1 b2 b3 b4) 2 = b2 ∧ lane (packLanes b0 b1 b2 b3 b4) 3 = b3 ∧
        lane (packLanes b0 b1 b2 b3 b4) 4 = b4 := by
  refine ⟨?_, ?_, ?_, ?_, ?_⟩ <;>
    (unfold lane packLanes; ext j hj; simp only [BitVec.getElem_extractLsb', BitVec.getLsbD_append]; grind)

@[simp] theorem lane_packLanes_0 (b0 b1 b2 b3 b4 : Byte) : lane (packLanes b0 b1 b2 b3 b4) 0 = b0 :=
  (lane_packLanes b0 b1 b2 b3 b4).1

@[simp] theorem lane_packLanes_1 (b0 b1 b2 b3 b4 : Byte) : lane (packLanes b0 b1 b2 b3 b4) 1 = b1 :=
  (lane_packLanes b0 b1 b2 b3 b4).2.1

@[simp] theorem lane_packLanes_2 (b0 b1 b2 b3 b4 : Byte) : lane (packLanes b0 b1 b2 b3 b4) 2 = b2 :=
  (lane_packLanes b0 b1 b2 b3 b4).2.2.1

@[simp] theorem lane_packLanes_3 (b0 b1 b2 b3 b4 : Byte) : lane (packLanes b0 b1 b2 b3 b4) 3 = b3 :=
  (lane_packLanes b0 b1 b2 b3 b4).2.2.2.1

@[simp] theorem lane_packLanes_4 (b0 b1 b2 b3 b4 : Byte) : lane (packLanes b0 b1 b2 b3 b4) 4 = b4 :=
  (lane_packLanes b0 b1 b2 b3 b4).2.2.2.2

/-- A masked bus keeps the lanes below the count and has 0x00 in the others (R24, R59). -/
theorem lane_maskLanes (k : Count) (d : Lanes) (i : Nat) (hi : i < 5) :
    lane (maskLanes k d) i = if i < k.toNat then lane d i else 0x00#8 := by
  interval_cases i <;> simp [maskLanes]

/-- A masked bus is 0x00 from the count on. -/
theorem lanesClear_maskLanes (k : Count) (d : Lanes) : lanesClear k (maskLanes k d) := by
  intro i hi
  rw [lane_maskLanes k d i.val i.isLt, if_neg (by omega)]

/-- Masking reads only the lanes below the count (R59). -/
theorem maskLanes_congr {k : Count} {c d : Lanes} (h : ∀ i, i < 5 → i < k.toNat → lane c i = lane d i) :
    maskLanes k c = maskLanes k d := by
  have g : ∀ i, i < 5 → (if i < k.toNat then lane c i else 0x00#8) = if i < k.toNat then lane d i else 0x00#8 := by
    intro i hi
    split
    · exact h i hi ‹_›
    · rfl
  unfold maskLanes
  rw [g 0 (by decide), g 1 (by decide), g 2 (by decide), g 3 (by decide), g 4 (by decide)]

/-- A zero-extended byte is itself in lane 0 and 0x00 elsewhere (R105). -/
theorem lane_setWidth_byte (b : Byte) (i : Nat) (hi : i < 5) :
    lane (b.setWidth 40) i = if i = 0 then b else 0x00#8 := by
  unfold lane
  ext j hj
  simp only [BitVec.getElem_extractLsb', BitVec.getLsbD_setWidth]
  have : ∀ n, 8 ≤ n → b.getLsbD n = false := fun n hn => BitVec.getLsbD_of_ge b n hn
  rcases Nat.eq_zero_or_pos i with rfl | h
  · simp [BitVec.getLsbD_eq_getElem hj, show j < 40 by omega]
  · rw [this _ (by omega), if_neg (by omega)]; simp

/-! ## The field extractor -/

/-- LE16 is the concatenation of its bytes (R160). -/
theorem le16_eq_append (lo hi : Byte) : le16 lo hi = hi ++ lo := by
  unfold le16
  ext j hj
  simp only [BitVec.getElem_or, BitVec.getElem_setWidth, BitVec.getElem_shiftLeft]
  grind

/-! ## Presenting an outcome -/

/-- An emitted outcome is what the port presents (R61). -/
theorem presented_emit (s : State) (o : PortOutcome) : (s.emit o).presented = some o := by
  cases o <;> rfl

/-- Nothing is presented while the strobe is low (R30). -/
theorem presented_of_not_valid (s : State) (h : s.outValid = false) : s.presented = none := by
  simp [State.presented, h]

/-! ## The input bus -/

/-- Clearing the strobe changes nothing the bus depends on. -/
@[simp] theorem State.clearStrobe_bus (s : State) : s.clearStrobe.bus = s.bus := rfl

/-- Clearing the strobe changes nothing an event's key depends on. -/
@[simp] theorem eventKey_clearStrobe (s : State) (e : Event) : eventKey s.clearStrobe e = eventKey s e := by
  cases e <;> rfl

/-- The bus wires are the wires given, with the count saturated at the port (R57). -/
theorem State.bus_wires (s : State) (b : Bus) (h : s.env.pins.src = .wires b) :
    s.bus = { b with avail := portAvail s.params b.avail } := by
  simp [State.bus, h]

/-- The saturated count passes the test of R57 exactly when the count does, where `AVW` is at least 3 (R9). -/
theorem five_le_portAvail (p : Params) (n : Nat) (h : 3 ≤ p.avw) : 5 ≤ portAvail p n ↔ 5 ≤ n := by
  have : 2 ^ 3 ≤ 2 ^ p.avw := Nat.pow_le_pow_right (by decide) h
  unfold portAvail
  omega

end Sys2Proof.Machine
end

