-- ==== Sys2Proof/Laws/Edge.lean ====
section
/-! SUPPORT. What one clock edge can do: the inversion of the edge and of the step, and what performing, accepting and issuing answer. -/

set_option Elab.async false

namespace Sys2Proof.Machine

variable {s t : State}

/-- The step is the edge, with the environment moved on (R72). -/
theorem step_cases (h : step s = .next t) : ∃ u, edge s = .next u ∧ t = u.setEnv s.nextEnv := by
  unfold step edgeStep at h
  split at h
  case h_1 u hu => exact ⟨u, hu, by cases h; rfl⟩
  all_goals cases h

/-- Where the edge answers, so does the step. -/
theorem step_of_edge (h : edge s = .next t) : step s = .next (t.setEnv s.nextEnv) := by
  simp [step, edgeStep, h]

/-- Performing a key runs the operation it selects (R15, R90). -/
theorem perform_cases {w : DKey} (h : perform w s = .next t) : ∃ i, decode w = .ok i ∧ exec i s = .next t := by
  unfold perform at h
  split at h
  · exact ⟨_, ‹_›, h⟩
  · cases h

/-- Settling an accepted response clears the request unless the operation raised a fault (R74, R206). -/
theorem settle_cases {o : Host.Outcome State Fault Refusal} (h : settle o = .next t) :
    ∃ u, o = .next u ∧ t = if u.fault then u else u.clearRequest := by
  cases o with
  | next u => exact ⟨u, rfl, by cases h; rfl⟩
  | fault r => cases h
  | refused r => cases h

/-- Accepting a response performs the event it makes (R74). -/
theorem accept_cases (h : acceptResponse s = .next t) :
    ∃ e i u, responseEvent s.rqKind s.bus = some e ∧ decode (eventKey s e) = .ok i ∧ exec i s = .next u ∧
      t = if u.fault then u else u.clearRequest := by
  unfold acceptResponse at h
  split at h
  case h_1 e he =>
    obtain ⟨u, hu, rfl⟩ := settle_cases h
    obtain ⟨i, hi, hx⟩ := perform_cases hu
    exact ⟨e, i, u, he, hi, hx, rfl⟩
  case h_2 => cases h

/-- Everything one edge can do, in the order of R72 and R211. -/
theorem edge_cases (h : edge s = .next t) :
    (s.env.pins.rst = true ∧ t = s.resetRegs) ∨
    (s.env.pins.rst = false ∧ s.fault = true ∧ t = s.clearStrobe) ∨
    (s.env.pins.rst = false ∧ s.fault = false ∧
      ((s.st = .illegal ∧ exec .illegalState s.clearStrobe = .next t) ∨
       (s.st ≠ .illegal ∧ s.bus.valid = true ∧ s.rqOut = false ∧ t = s.clearStrobe.raiseFault .spuriousRsp) ∨
       (s.st ≠ .illegal ∧ s.bus.valid = true ∧ s.rqOut = true ∧
          ∃ e i u, responseEvent s.rqKind s.bus = some e ∧ decode (eventKey s e) = .ok i ∧
            exec i s.clearStrobe = .next u ∧ t = if u.fault then u else u.clearRequest) ∨
       (s.st ≠ .illegal ∧ s.bus.valid = false ∧ s.rqOut = true ∧ t = s.clearStrobe) ∨
       (s.st = .validate ∧ s.bus.valid = false ∧ s.rqOut = false ∧
          ∃ i, decode (eventKey s .val) = .ok i ∧ exec i s.clearStrobe = .next t) ∨
       (s.st ≠ .illegal ∧ s.st ≠ .validate ∧ s.bus.valid = false ∧ s.rqOut = false ∧
          t = issueRequest s.clearStrobe))) := by
  unfold edge at h
  by_cases hr : s.env.pins.rst = true
  · rw [if_pos hr] at h
    exact .inl ⟨hr, by cases h; rfl⟩
  rw [if_neg hr] at h
  rw [Bool.not_eq_true] at hr
  right
  by_cases hf : s.fault = true
  · rw [if_pos hf] at h
    exact .inl ⟨hr, hf, by cases h; rfl⟩
  rw [if_neg hf] at h
  rw [Bool.not_eq_true] at hf
  refine .inr ⟨hr, hf, ?_⟩
  unfold liveEdge at h
  by_cases hs : s.st = .illegal
  · rw [if_pos (show s.clearStrobe.st = .illegal from hs)] at h
    obtain ⟨i, hi, hx⟩ := perform_cases h
    rw [decode_illegalKey] at hi
    cases hi
    exact .inl ⟨hs, hx⟩
  rw [if_neg (show ¬ s.clearStrobe.st = .illegal from hs)] at h
  right
  by_cases hv : s.bus.valid = true <;> by_cases hq : s.rqOut = true
  · have c1 : (s.clearStrobe.bus.valid && !s.clearStrobe.rqOut) = false := by simp [hv, hq]
    have c2 : (s.clearStrobe.rqOut && s.clearStrobe.bus.valid) = true := by simp [hv, hq]
    rw [if_neg (by rw [c1]; decide), if_pos c2] at h
    obtain ⟨e, i, u, he, hi, hx, ht⟩ := accept_cases (s := s.clearStrobe) h
    rw [eventKey_clearStrobe] at hi
    exact .inr (.inl ⟨hs, hv, hq, e, i, u, he, hi, hx, ht⟩)
  · have c1 : (s.clearStrobe.bus.valid && !s.clearStrobe.rqOut) = true := by simp [hv, hq]
    rw [if_pos c1] at h
    exact .inl ⟨hs, hv, by simpa using hq, by cases h; rfl⟩
  · have c1 : (s.clearStrobe.bus.valid && !s.clearStrobe.rqOut) = false := by simp [hv]
    have c2 : (s.clearStrobe.rqOut && s.clearStrobe.bus.valid) = false := by simp [hv]
    rw [if_neg (by rw [c1]; decide), if_neg (by rw [c2]; decide),
      if_pos (show s.clearStrobe.rqOut = true from hq)] at h
    exact .inr (.inr (.inl ⟨hs, by simpa using hv, hq, by cases h; rfl⟩))
  · have c1 : (s.clearStrobe.bus.valid && !s.clearStrobe.rqOut) = false := by simp [hv]
    have c2 : (s.clearStrobe.rqOut && s.clearStrobe.bus.valid) = false := by simp [hv]
    rw [if_neg (by rw [c1]; decide), if_neg (by rw [c2]; decide),
      if_neg (show ¬ s.clearStrobe.rqOut = true from hq)] at h
    by_cases hval : s.st = .validate
    · rw [if_pos (show s.clearStrobe.st = .validate from hval)] at h
      obtain ⟨i, hi, hx⟩ := perform_cases h
      rw [eventKey_clearStrobe] at hi
      exact .inr (.inr (.inr (.inl ⟨hval, by simpa using hv, by simpa using hq, i, hi, hx⟩)))
    · rw [if_neg (show ¬ s.clearStrobe.st = .validate from hval)] at h
      exact .inr (.inr (.inr (.inr ⟨hs, hval, by simpa using hv, by simpa using hq, by cases h; rfl⟩)))

/-- What an idle edge issues, and what it leaves (R73). -/
theorem issueRequest_cases (s : State) :
    issueRequest s = s ∨ ∃ k, requestDue s = some k ∧ issueRequest s = s.request k := by
  unfold issueRequest
  cases h : requestDue s with
  | none => exact .inl rfl
  | some k => exact .inr ⟨k, rfl, rfl⟩

/-- The requests the states issue (R52). -/
theorem requestDue_cases {k : ReqKind} (h : requestDue s = some k) :
    (k = .read1 ∧ s.st = .hunt ∧ s.env.pins.en = true) ∨ (k = .read5 ∧ s.st = .accumulate ∧ s.armed = true) ∨
      (k = .poll ∧ s.st = .accumulate ∧ s.armed = false) := by
  unfold requestDue at h
  cases hs : s.st <;> simp only [hs] at h
  · cases he : s.env.pins.en <;> simp_all
  · cases ha : s.armed <;> simp_all
  · cases h
  · cases h

/-! ## The edge, case by case -/

/-- An edge with `rst` resets every register, whatever else it brings (R230). -/
theorem edge_reset (hr : s.env.pins.rst = true) : edge s = .next s.resetRegs := by
  unfold edge
  rw [if_pos hr]

/-- A faulted block only lowers its strobe (R206, R214). -/
theorem edge_faulted (hr : s.env.pins.rst = false) (hf : s.fault = true) : edge s = .next s.clearStrobe := by
  unfold edge
  rw [if_neg (by rw [hr]; decide), if_pos hf]

/-- An edge without `rst`, on a block that is not faulted (R72). -/
theorem edge_live (hr : s.env.pins.rst = false) (hf : s.fault = false) : edge s = liveEdge s.clearStrobe := by
  unfold edge
  rw [if_neg (by rw [hr]; decide), if_neg (by rw [hf]; decide)]

/-- State 11 performs ILLEGAL_STATE (R209). -/
theorem edge_illegal (hr : s.env.pins.rst = false) (hf : s.fault = false) (hs : s.st = .illegal) :
    edge s = perform illegalKey s.clearStrobe := by
  rw [edge_live hr hf]
  unfold liveEdge
  rw [if_pos (show s.clearStrobe.st = _ from hs)]

/-- A response with nothing outstanding is the spurious-response fault (R208). -/
theorem edge_spurious (hr : s.env.pins.rst = false) (hf : s.fault = false) (hs : s.st ≠ .illegal)
    (hv : s.bus.valid = true) (hq : s.rqOut = false) : edge s = .next (s.clearStrobe.raiseFault .spuriousRsp) := by
  rw [edge_live hr hf]
  unfold liveEdge
  rw [if_neg (show ¬ s.clearStrobe.st = _ from hs), if_pos (by simp [hv, hq])]

/-- A response to an outstanding request is accepted (R74). -/
theorem edge_accept (hr : s.env.pins.rst = false) (hf : s.fault = false) (hs : s.st ≠ .illegal)
    (hv : s.bus.valid = true) (hq : s.rqOut = true) : edge s = acceptResponse s.clearStrobe := by
  rw [edge_live hr hf]
  unfold liveEdge
  rw [if_neg (show ¬ s.clearStrobe.st = _ from hs), if_neg (by simp [hq]), if_pos (by simp [hv, hq])]

/-- An outstanding request without a response is held (R73). -/
theorem edge_wait (hr : s.env.pins.rst = false) (hf : s.fault = false) (hs : s.st ≠ .illegal)
    (hv : s.bus.valid = false) (hq : s.rqOut = true) : edge s = .next s.clearStrobe := by
  rw [edge_live hr hf]
  unfold liveEdge
  rw [if_neg (show ¬ s.clearStrobe.st = _ from hs), if_neg (by simp [hq]), if_neg (by simp [hv]), if_pos (by simp [hq])]

/-- VALIDATE performs the operation its registers select (R140). -/
theorem edge_validate (hr : s.env.pins.rst = false) (hf : s.fault = false) (hs : s.st = .validate)
    (hv : s.bus.valid = false) (hq : s.rqOut = false) : edge s = perform (eventKey s .val) s.clearStrobe := by
  have hi : ¬ s.clearStrobe.st = .illegal := by simp [hs]
  rw [edge_live hr hf]
  unfold liveEdge
  rw [if_neg hi, if_neg (by simp [hv]), if_neg (by simp [hv]), if_neg (by simp [hq]),
    if_pos (show s.clearStrobe.st = _ from hs), eventKey_clearStrobe]

/-- Every other edge issues the request that is due (R73). -/
theorem edge_issue (hr : s.env.pins.rst = false) (hf : s.fault = false) (hs : s.st ≠ .illegal) (hs' : s.st ≠ .validate)
    (hv : s.bus.valid = false) (hq : s.rqOut = false) : edge s = .next (issueRequest s.clearStrobe) := by
  rw [edge_live hr hf]
  unfold liveEdge
  rw [if_neg (show ¬ s.clearStrobe.st = _ from hs), if_neg (by simp [hv]), if_neg (by simp [hv]), if_neg (by simp [hq]),
    if_neg (show ¬ s.clearStrobe.st = _ from hs')]

/-! ## What a performed operation leaves -/

/-- An operation reads of the environment only the host time, in HUNT.START, and the lanes below the count, in
ACC.R5_ACCEPT (R78, R124); it answers in every environment, and moves none. -/
theorem exec_setEnv (i : Instr) (s : State) (e : Env) (h1 : i = .huntStart → (s.setEnv e).hostTime = s.hostTime)
    (h2 : ∀ k, i = .accR5Accept k → maskLanes k (s.setEnv e).bus.data = maskLanes k s.bus.data) :
    ∃ t, exec i s = .next t ∧ exec i (s.setEnv e) = .next (t.setEnv e) := by
  cases i with
  | huntStart =>
    have := h1 rfl
    exact ⟨_, rfl, by simp only [exec, execHuntStart, this]; rfl⟩
  | accR5Accept k =>
    have := h2 k rfl
    exact ⟨_, rfl, by simp only [exec, execAccR5Accept, State.latchPacket, this]; rfl⟩
  | _ => exact ⟨_, rfl, rfl⟩

/-- What an accepted response can do, as operations on the registers (R102 to R106, R121 to R125). -/
theorem accepted_cases {u : State} {e : Event} {i : Instr} (hq : responseEvent s.rqKind s.bus = some e)
    (hd : decode (eventKey s e) = .ok i) (hx : exec i s.clearStrobe = .next u) :
    (s.rqKind = .read1 ∧ s.bus.cnt = 1#3 ∧ lane s.bus.data 0 = 0x42#8 ∧
      u = (((s.clearStrobe.setTCap s.hostTime).setTmo 0).setArmed false).setSt .accumulate) ∨
    (s.rqKind = .read1 ∧ ¬ (s.bus.cnt = 1#3 ∧ lane s.bus.data 0 = 0x42#8) ∧ u = s.clearStrobe.emit .idle) ∨
    (s.rqKind = .read1 ∧ ¬ (s.bus.cnt = 1#3 ∧ lane s.bus.data 0 = 0x42#8) ∧ s.bus.cnt = 1#3 ∧
      u = s.clearStrobe.emit (.rejected .unexpectedByte 1#3 ((lane s.bus.data 0).setWidth 40))) ∨
    (s.rqKind = .read1 ∧ ¬ (s.bus.cnt = 1#3 ∧ lane s.bus.data 0 = 0x42#8) ∧ 2#3 ≤ s.bus.cnt ∧
      u = s.clearStrobe.raiseFault .cntRange) ∨
    (s.rqKind = .poll ∧ 5 ≤ s.bus.avail ∧ u = s.clearStrobe.setArmed true) ∨
    (s.rqKind = .poll ∧ s.bus.avail < 5 ∧ s.params.pktTimeout ≠ 0 ∧
      u = ((s.clearStrobe.emit (.rejected .packetTimeout 0#3 0#40)).setArmed false).setSt .hunt) ∨
    (s.rqKind = .poll ∧ s.bus.avail < 5 ∧ u = s.clearStrobe.setTmo (tmoNext s.params s.tmo)) ∨
    (s.rqKind = .read5 ∧ 6#3 ≤ s.bus.cnt ∧ u = s.clearStrobe.raiseFault .cntRange) ∨
    (s.rqKind = .read5 ∧ s.bus.cnt ≤ 5#3 ∧
      u = ((s.clearStrobe.latchPacket s.bus.cnt s.bus.data).setArmed false).setSt .validate) := by
  have h1 : ∀ k : Count, k ≠ 1#3 → k ≠ 0#3 → 2#3 ≤ k := by decide
  have h2 : ∀ k : Count, ¬ 6#3 ≤ k → k ≤ 5#3 := by decide
  cases hk : s.rqKind with
  | none => simp [hk, responseEvent] at hq
  | read1 =>
    simp only [hk, responseEvent, Option.some.injEq] at hq
    subst hq
    rw [decode_eventKey_r1] at hd
    by_cases c1 : s.bus.cnt = 1#3
    · rw [if_pos c1] at hd
      by_cases b1 : lane s.bus.data 0 = Config.startMarker
      · rw [if_pos b1] at hd
        cases hd
        cases hx
        exact .inl ⟨rfl, c1, b1, rfl⟩
      · rw [if_neg b1] at hd
        have nb : ¬ (s.bus.cnt = 1#3 ∧ lane s.bus.data 0 = 0x42#8) := fun h => b1 h.2
        by_cases b2 : lane s.bus.data 0 = Config.newline
        · rw [if_pos b2] at hd
          cases hd
          cases hx
          exact .inr (.inl ⟨rfl, nb, rfl⟩)
        · rw [if_neg b2] at hd; cases hd; cases hx
          exact .inr (.inr (.inl ⟨rfl, nb, c1, rfl⟩))
    · rw [if_neg c1] at hd
      have nb : ¬ (s.bus.cnt = 1#3 ∧ lane s.bus.data 0 = 0x42#8) := fun h => c1 h.1
      by_cases c0 : s.bus.cnt = 0#3
      · rw [if_pos c0] at hd
        cases hd
        cases hx
        exact .inr (.inl ⟨rfl, nb, rfl⟩)
      · rw [if_neg c0] at hd; cases hd; cases hx
        exact .inr (.inr (.inr (.inl ⟨rfl, nb, h1 _ c1 c0, rfl⟩)))
  | poll =>
    simp only [hk, responseEvent, Option.some.injEq] at hq
    subst hq
    rw [decode_eventKey_poll] at hd
    by_cases ha : 5 ≤ s.bus.avail
    · have : avok s.bus.avail = true := decide_eq_true ha
      rw [this] at hd; cases hd; cases hx
      exact .inr (.inr (.inr (.inr (.inl ⟨rfl, ha, rfl⟩))))
    · have : avok s.bus.avail = false := decide_eq_false ha
      rw [this] at hd
      cases ht : tmoFires s.params s.tmo <;> rw [ht] at hd <;> cases hd <;> cases hx
      · exact .inr (.inr (.inr (.inr (.inr (.inr (.inl ⟨rfl, by omega, rfl⟩))))))
      · exact .inr (.inr (.inr (.inr (.inr (.inl ⟨rfl, by omega, by simp [tmoFires] at ht; exact ht.1, rfl⟩)))))
  | read5 =>
    simp only [hk, responseEvent, Option.some.injEq] at hq
    subst hq
    rw [decode_eventKey_r5] at hd
    by_cases c : 6#3 ≤ s.bus.cnt
    · rw [if_pos c] at hd
      cases hd
      cases hx
      exact .inr (.inr (.inr (.inr (.inr (.inr (.inr (.inl ⟨rfl, c, rfl⟩)))))))
    · rw [if_neg c] at hd; cases hd; cases hx
      exact .inr (.inr (.inr (.inr (.inr (.inr (.inr (.inr ⟨rfl, h2 _ c, rfl⟩)))))))

/-- What the VALIDATE step can do, as operations on the registers (R141 to R143, R209). -/
theorem validate_cases {u : State} {i : Instr} (hd : decode (eventKey s .val) = .ok i)
    (hx : exec i s.clearStrobe = .next u) :
    (s.cnt = 5#3 ∧ u = (s.clearStrobe.emit (.sample (packetTs s.buf) (packetRd s.buf) s.tCap)).setSt .hunt) ∨
    (s.cnt = 5#3 ∧ u = (s.clearStrobe.emit (.rejected .badTerminator 5#3 s.buf)).setSt .hunt) ∨
    (6#3 ≤ s.cnt ∧ u = s.clearStrobe.raiseFault .illegalState) ∨
    (s.cnt ≤ 4#3 ∧ u = (s.clearStrobe.emit (.rejected .shortPacket s.cnt s.buf)).setSt .hunt) := by
  have h3 : ∀ k : Count, ¬ 6#3 ≤ k → k ≠ 5#3 → k ≤ 4#3 := by decide
  rw [decode_eventKey_val] at hd
  split at hd
  · split at hd <;> cases hd <;> cases hx
    · exact .inl ⟨‹_›, rfl⟩
    · exact .inr (.inl ⟨‹_›, rfl⟩)
  · split at hd <;> cases hd <;> cases hx
    · exact .inr (.inr (.inl ⟨‹_›, rfl⟩))
    · exact .inr (.inr (.inr ⟨h3 _ ‹_› ‹_›, rfl⟩))

end Sys2Proof.Machine
end

