-- ==== Sys2Proof/Laws/PerInstr.lean ====
section
/-! SUPPORT. The per-operation family `RowBits`: the key of a well-formed operation carries its row's match under its row's mask (R90). -/

set_option Elab.async false

namespace Sys2Proof.Laws.RowBits

/-- The row an operation belongs to selects the operation's key. -/
def Statement (i : Instr) : Prop :=
  i.WellFormed → ∃ r, opMap[i.row - 1]? = some r ∧ r.selects (encode i) = true

/-- Masking with ones in the upper two bits of a count. -/
theorem count_and_six : ∀ k : Count, 6#3 ≤ k → k &&& 6#3 = 6#3 := by decide

theorem huntStart : Statement .huntStart := fun _ => ⟨_, rfl, by decide⟩

theorem huntNewline : Statement .huntNewline := fun _ => ⟨_, rfl, by decide⟩

theorem huntUnexpected (b : Byte) : Statement (.huntUnexpected b) := by
  intro _
  refine ⟨_, rfl, ?_⟩
  rw [selects_iff]
  simp only [encode, keySt_keyOf, keyArmed_keyOf, keyAvok_keyOf, keyTmo_keyOf, keyCnt_keyOf, keyByte_keyOf]
  simp [keySt, keyArmed, keyAvok, keyTmo, keyCnt, keyByte]

theorem huntTimeout : Statement .huntTimeout := fun _ => ⟨_, rfl, by decide⟩

theorem huntCntfault (k : Count) (b : Byte) : Statement (.huntCntfault k b) := by
  intro _
  refine ⟨_, rfl, ?_⟩
  rw [selects_iff]
  simp only [encode, keySt_keyOf, keyArmed_keyOf, keyAvok_keyOf, keyTmo_keyOf, keyCnt_keyOf, keyByte_keyOf]
  simp [keySt, keyArmed, keyAvok, keyTmo, keyCnt, keyByte]

theorem accPollReady (tmo : Bool) : Statement (.accPollReady tmo) := by
  intro _
  refine ⟨_, rfl, ?_⟩
  rw [selects_iff]
  simp only [encode, keySt_keyOf, keyArmed_keyOf, keyAvok_keyOf, keyTmo_keyOf, keyCnt_keyOf, keyByte_keyOf]
  simp [keySt, keyArmed, keyAvok, keyTmo, keyCnt, keyByte]

theorem accPollTimeout : Statement .accPollTimeout := fun _ => ⟨_, rfl, by decide⟩

theorem accPollWait : Statement .accPollWait := fun _ => ⟨_, rfl, by decide⟩

theorem accR5Cntfault (k : Count) : Statement (.accR5Cntfault k) := by
  intro h
  have hk : 6#3 ≤ k := of_decide_eq_true h
  refine ⟨_, rfl, ?_⟩
  rw [selects_iff]
  simp only [encode, keySt_keyOf, keyArmed_keyOf, keyAvok_keyOf, keyTmo_keyOf, keyCnt_keyOf, keyByte_keyOf]
  simpa [keySt, keyArmed, keyAvok, keyTmo, keyCnt, keyByte] using count_and_six k hk

theorem accR5Accept (k : Count) : Statement (.accR5Accept k) := by
  intro _
  refine ⟨_, rfl, ?_⟩
  rw [selects_iff]
  simp only [encode, keySt_keyOf, keyArmed_keyOf, keyAvok_keyOf, keyTmo_keyOf, keyCnt_keyOf, keyByte_keyOf]
  simp [keySt, keyArmed, keyAvok, keyTmo, keyCnt, keyByte]

theorem valSample : Statement .valSample := fun _ => ⟨_, rfl, by decide⟩

theorem valBadterm (b : Byte) : Statement (.valBadterm b) := by
  intro _
  refine ⟨_, rfl, ?_⟩
  rw [selects_iff]
  simp only [encode, keySt_keyOf, keyArmed_keyOf, keyAvok_keyOf, keyTmo_keyOf, keyCnt_keyOf, keyByte_keyOf]
  simp [keySt, keyArmed, keyAvok, keyTmo, keyCnt, keyByte]

theorem valCntfault (k : Count) (b : Byte) : Statement (.valCntfault k b) := by
  intro h
  have hk : 6#3 ≤ k := of_decide_eq_true h
  refine ⟨_, rfl, ?_⟩
  rw [selects_iff]
  simp only [encode, keySt_keyOf, keyArmed_keyOf, keyAvok_keyOf, keyTmo_keyOf, keyCnt_keyOf, keyByte_keyOf]
  simpa [keySt, keyArmed, keyAvok, keyTmo, keyCnt, keyByte] using count_and_six k hk

theorem valShort (k : Count) (b : Byte) : Statement (.valShort k b) := by
  intro _
  refine ⟨_, rfl, ?_⟩
  rw [selects_iff]
  simp only [encode, keySt_keyOf, keyArmed_keyOf, keyAvok_keyOf, keyTmo_keyOf, keyCnt_keyOf, keyByte_keyOf]
  simp [keySt, keyArmed, keyAvok, keyTmo, keyCnt, keyByte]

theorem illegalState : Statement .illegalState := fun _ => ⟨_, rfl, by decide⟩

end Sys2Proof.Laws.RowBits
end

