-- ==== Sys2Proof/Laws/Run.lean ====
section
/-! SUPPORT. Runs of edges, one edge at a time: the state reached, the outcomes emitted and those the sinks take. -/

set_option Elab.async false

namespace Sys2Proof.Machine

variable {s t : State}

/-- A run of one more edge starts with that edge. -/
theorem stateAfter_succ (n : Nat) (h : step s = .next t) : stateAfter (n + 1) s = stateAfter n t := by
  simp only [stateAfter, h]

/-- A run's outcomes start with the first edge's (R244). -/
theorem emissions_succ (n : Nat) (h : step s = .next t) :
    emissions (n + 1) s = t.presented.toList ++ emissions n t := by
  simp only [emissions, h]

/-- What the sinks take in a run starts with the first edge's cycle (R64). -/
theorem recorded_succ (n : Nat) (h : step s = .next t) : recorded (n + 1) s = t.taken.toList ++ recorded n t := by
  simp only [recorded, h]

/-- A premise on every edge of a run holds at the first, and on the rest of the run. -/
theorem BeforeEachEdge.first_and_rest {P : State → Prop} {n : Nat} (hp : BeforeEachEdge P (n + 1) s) (h : step s = .next t) :
    P s ∧ BeforeEachEdge P n t :=
  ⟨hp 0 (by omega) s rfl, fun m hm u hu => hp (m + 1) (by omega) u (by rw [stateAfter_succ m h]; exact hu)⟩

/-- Ready sinks take what the first edge presents, and are ready for the rest of the run. -/
theorem SinkReady.first_and_rest {n : Nat} (hr : SinkReady (n + 1) s) (h : step s = .next t) :
    (∀ o, t.presented = some o → o.forSink = true → t.taken = some o) ∧ SinkReady n t := by
  refine ⟨fun o ho hs => ?_, fun m hm u hu => hr (m + 1) (by omega) u (by rw [stateAfter_succ m h]; exact hu)⟩
  rw [State.taken, if_pos (hr 1 (by omega) t (stateAfter_succ 0 h) o ho hs), ho]

end Sys2Proof.Machine
end

