-- ==== Sys2Proof/Tests/Slice0.lean ====
section
/-! SUPPORT. Tests of the model against the spec's own vectors (95_test_vectors.md) and rules, and for every obligation with hypotheses
a state and operands that meet them. Each test names its source. -/

set_option Elab.async false

namespace Sys2Proof.Tests

open Sys2Proof Sys2Proof.Machine Sys2Proof.Claims

/-! ## Ill-formed operations are refused (the "selects" column of R90) -/

theorem test_wf_unexpected : (Instr.huntUnexpected 0x42#8).wf = false ∧ (Instr.huntUnexpected 0x0A#8).wf = false ∧
    (Instr.huntUnexpected 0x41#8).wf = true := by decide

theorem test_wf_hunt_cntfault : (Instr.huntCntfault 1#3 0x42#8).wf = false ∧ (Instr.huntCntfault 0#3 0x42#8).wf = false ∧
    (Instr.huntCntfault 2#3 0x42#8).wf = true := by decide

theorem test_wf_r5_cntfault : (Instr.accR5Cntfault 5#3).wf = false ∧ (Instr.accR5Cntfault 6#3).wf = true := by decide

theorem test_wf_r5_accept : (Instr.accR5Accept 6#3).wf = false ∧ (Instr.accR5Accept 5#3).wf = true := by decide

theorem test_wf_badterm : (Instr.valBadterm 0x45#8).wf = false ∧ (Instr.valBadterm 0x44#8).wf = true := by decide

theorem test_wf_val_cntfault : (Instr.valCntfault 5#3 0#8).wf = false ∧ (Instr.valCntfault 7#3 0#8).wf = true := by decide

theorem test_wf_short : (Instr.valShort 5#3 0#8).wf = false ∧ (Instr.valShort 4#3 0#8).wf = true := by decide

/-! ## Decoding: keys written out in 95_test_vectors.md section 2, one or more for every operation -/

/-- V-H-3. -/
theorem test_decode_hunt_start : decodeTableWord 16 0x0142 = some .huntStart := by decide

/-- V-H-4. -/
theorem test_decode_hunt_newline : decodeTableWord 16 0x010A = some .huntNewline := by decide

/-- V-H-5, V-H-8 and V-H-11: the neighbours of the markers are neither. -/
theorem test_decode_hunt_unexpected : decodeTableWord 16 0x0145 = some (.huntUnexpected 0x45#8) ∧
    decodeTableWord 16 0x0141 = some (.huntUnexpected 0x41#8) ∧
      decodeTableWord 16 0x010D = some (.huntUnexpected 0x0D#8) := by decide

/-- V-H-1. -/
theorem test_decode_hunt_timeout : decodeTableWord 16 0x0000 = some .huntTimeout := by decide

/-- V-H-15 and V-H-16. -/
theorem test_decode_hunt_cntfault : decodeTableWord 16 0x0242 = some (.huntCntfault 2#3 0x42#8) ∧
    decodeTableWord 16 0x0700 = some (.huntCntfault 7#3 0x00#8) := by decide

/-- V-P-3 and V-P-9: readiness beats the timeout. -/
theorem test_decode_poll_ready : decodeTableWord 16 0x5000 = some (.accPollReady false) ∧
    decodeTableWord 16 0x5800 = some (.accPollReady true) := by decide

/-- V-P-8. -/
theorem test_decode_poll_timeout : decodeTableWord 16 0x4800 = some .accPollTimeout := by decide

/-- V-P-1. -/
theorem test_decode_poll_wait : decodeTableWord 16 0x4000 = some .accPollWait := by decide

/-- V-R-6 and V-R-7. -/
theorem test_decode_r5_cntfault : decodeTableWord 16 0x6600 = some (.accR5Cntfault 6#3) ∧
    decodeTableWord 16 0x6700 = some (.accR5Cntfault 7#3) := by decide

/-- V-R-1 and V-R-2. -/
theorem test_decode_r5_accept : decodeTableWord 16 0x6500 = some (.accR5Accept 5#3) ∧
    decodeTableWord 16 0x6000 = some (.accR5Accept 0#3) := by decide

/-- V-SAM-1. -/
theorem test_decode_val_sample : decodeTableWord 16 0x8545 = some .valSample := by decide

/-- V-BT-1 and V-BT-5. -/
theorem test_decode_val_badterm : decodeTableWord 16 0x8558 = some (.valBadterm 0x58#8) ∧
    decodeTableWord 16 0x8544 = some (.valBadterm 0x44#8) := by decide

/-- V-VF-2, and a key of V-VF-1's class. -/
theorem test_decode_val_cntfault : decodeTableWord 16 0x8745 = some (.valCntfault 7#3 0x45#8) ∧
    decodeTableWord 16 0x8600 = some (.valCntfault 6#3 0x00#8) := by decide

/-- V-SP-1 and V-SP-4. -/
theorem test_decode_val_short : decodeTableWord 16 0x8400 = some (.valShort 4#3 0x00#8) ∧
    decodeTableWord 16 0x8000 = some (.valShort 0#3 0x00#8) := by decide

/-- V-F-1. -/
theorem test_decode_illegal_state : decodeTableWord 16 0xC000 = some .illegalState := by decide

/-! ## One step per operation

The states are the reset state with the registers a vector names, the response on the wires, and quiet pins listed for the
edge after, so that nothing free is drawn. -/

/-- A silent source. -/
def silent : Bus := { valid := false, cnt := 0#3, data := 0#40, avail := 0 }

/-- A response. -/
def answer (k : Count) (d : Lanes) (a : Nat) : Bus := { valid := true, cnt := k, data := d, avail := a }

/-- The reset state with bus `b` and host time 77 at the coming edge, and `en` = 1. -/
def onBus (b : Bus) : State := State.reset.withSchedule (wirePins 77 b) [wirePins 0 silent]

/-- HUNT with a READ1 outstanding. -/
def hunting (b : Bus) : State := (onBus b).request .read1

/-- ACCUMULATE with a POLL outstanding. -/
def polling (b : Bus) : State := ((onBus b).setSt .accumulate).request .poll

/-- ACCUMULATE with a READ5 outstanding. -/
def reading (b : Bus) : State := (((onBus b).setSt .accumulate).setArmed true).request .read5

/-- VALIDATE with a packet latched and a captured host time of 9. -/
def validating (k : Count) (d : Lanes) : State :=
  { (((onBus silent).setSt .validate).setTCap 9) with buf := d, cnt := k }

/-- `s` with another packet timeout and poll count. -/
def withTimeout (timeout count : Nat) (s : State) : State :=
  { (s.setTmo count) with params := { s.params with pktTimeout := timeout } }

/-- The next state of an outcome. -/
def nextOf (o : Host.Outcome State Fault Refusal) : Option State :=
  match o with
  | .next t => some t
  | .fault _ => none
  | .refused _ => none

/-- What a test reads of the state after one step. -/
def afterStep {α : Type} (f : State → α) (s : State) : Option α := (nextOf (step s)).map f

/-- V-H-1: Idle, the state stays HUNT, the request is over. -/
theorem test_hunt_timeout : afterStep (fun t => (t.presented, t.st, t.rqOut)) (hunting (answer 0#3 0#40 0)) =
    some (some .idle, .hunt, false) := by decide

/-- V-H-2: with a count of 0 the byte on the bus is not looked at. -/
theorem test_hunt_timeout_ignores_bus : afterStep (fun t => (t.presented, t.st)) (hunting (answer 0#3 0x42#40 0)) =
    some (some .idle, .hunt) := by decide

/-- V-H-3, from a poll count of 4. -/
theorem test_hunt_start :
    afterStep (fun t => (t.presented, t.st, t.tCap, t.tmo, t.armed)) ((hunting (answer 1#3 0x42#40 0)).setTmo 4) =
      some (none, .accumulate, 77, 0, false) := by decide

/-- R8, R78: an 8-bit host time captures the low 8 bits of 0x1234. -/
theorem test_hunt_start_width :
    afterStep (fun t => t.tCap)
      { ((hunting (answer 1#3 0x42#40 0)).withSchedule (wirePins 0x1234 (answer 1#3 0x42#40 0)) [wirePins 0 silent]) with
        params := { Config.defaults with htw := 8 } } = some 0x34 := by decide

/-- V-H-4. -/
theorem test_hunt_newline : afterStep (fun t => (t.presented, t.st, t.rejCode)) (hunting (answer 1#3 0x0A#40 0)) =
    some (some .idle, .hunt, .reserved0) := by decide

/-- V-H-5, with bytes above lane 0 on the bus (R59). -/
theorem test_hunt_unexpected : afterStep (fun t => (t.presented, t.st)) (hunting (answer 1#3 0xFFFFFFFF45#40 0)) =
    some (some (.rejected .unexpectedByte 1#3 0x0000000045#40), .hunt) := by decide

/-- V-H-15. -/
theorem test_hunt_cntfault :
    afterStep (fun t => (t.fault, t.fcode, t.st, t.rqOut, t.outValid)) (hunting (answer 2#3 0x42#40 0)) =
      some (true, .cntRange, .hunt, true, false) := by decide

/-- V-P-3. -/
theorem test_poll_ready : afterStep (fun t => (t.armed, t.st, t.tmo, t.presented)) (polling (answer 0#3 0#40 5)) =
    some (true, .accumulate, 0, none) := by decide

/-- V-P-9: readiness beats the timeout. -/
theorem test_poll_ready_beats_timeout :
    afterStep (fun t => (t.armed, t.st, t.presented)) (withTimeout 1 0 (polling (answer 0#3 0#40 5))) =
      some (true, .accumulate, none) := by decide

/-- V-P-11. -/
theorem test_poll_wait : afterStep (fun t => (t.tmo, t.armed, t.st)) (withTimeout 3 1 (polling (answer 0#3 0#40 2))) =
    some (2, false, .accumulate) := by decide

/-- V-P-6: the count saturates. -/
theorem test_poll_wait_saturates : afterStep (fun t => t.tmo) (withTimeout 0 65535 (polling (answer 0#3 0#40 0))) =
    some 65535 := by decide

/-- V-P-12: `tmo` keeps its value. -/
theorem test_poll_timeout :
    afterStep (fun t => (t.presented, t.st, t.armed, t.tmo)) (withTimeout 3 2 (polling (answer 0#3 0#40 2))) =
      some (some (.rejected .packetTimeout 0#3 0#40), .hunt, false, 2) := by decide

/-- V-R-6. -/
theorem test_r5_cntfault :
    afterStep (fun t => (t.fault, t.fcode, t.st, t.cnt, t.buf)) (reading (answer 6#3 0xFFFFFFFFFF#40 0)) =
      some (true, .cntRange, .accumulate, 0#3, 0#40) := by decide

/-- V-R-4: lane 4 is masked although the bus holds 0x45. -/
theorem test_r5_accept_masks :
    afterStep (fun t => (t.st, t.cnt, t.buf, t.armed)) (reading (answer 4#3 0x45012C0001#40 0)) =
      some (.validate, 4#3, 0x00012C0001#40, false) := by decide

/-- V-R-5: markers inside the payload are not looked at. -/
theorem test_r5_accept_full : afterStep (fun t => (t.st, t.cnt, t.buf)) (reading (answer 5#3 0x450A450A42#40 0)) =
    some (.validate, 5#3, 0x450A450A42#40) := by decide

/-- V-SAM-1. -/
theorem test_val_sample : afterStep (fun t => (t.presented, t.st)) (validating 5#3 0x45012C0001#40) =
    some (some (.sample 1#16 300#16 9), .hunt) := by decide

/-- V-SAM-4: no byte swap. -/
theorem test_val_sample_byte_order : afterStep (fun t => t.presented) (validating 5#3 0x4556781234#40) =
    some (some (.sample 4660#16 22136#16 9)) := by decide

/-- V-BT-1. -/
theorem test_val_badterm : afterStep (fun t => (t.presented, t.st)) (validating 5#3 0x58012C0001#40) =
    some (some (.rejected .badTerminator 5#3 0x58012C0001#40), .hunt) := by decide

/-- V-SP-1. -/
theorem test_val_short : afterStep (fun t => (t.presented, t.st)) (validating 4#3 0x00012C0001#40) =
    some (some (.rejected .shortPacket 4#3 0x00012C0001#40), .hunt) := by decide

/-- V-SP-3: the length check comes before the end marker. -/
theorem test_val_short_lone_end_marker : afterStep (fun t => t.presented) (validating 1#3 0x0000000045#40) =
    some (some (.rejected .shortPacket 1#3 0x0000000045#40)) := by decide

/-- V-VF-2. -/
theorem test_val_cntfault : afterStep (fun t => (t.fault, t.fcode, t.st, t.presented)) (validating 7#3 0x45012C0001#40) =
    some (true, .illegalState, .validate, none) := by decide

/-- V-F-1, with a response on the bus: state 11 comes first (R211). -/
theorem test_illegal_state :
    afterStep (fun t => (t.fault, t.fcode, t.st)) ((onBus (answer 1#3 0x42#40 0)).setSt .illegal) =
      some (true, .illegalState, .illegal) := by decide

/-! ## The edge: faults, reset, requests -/

/-- V-F-2. -/
theorem test_spurious_response : afterStep (fun t => (t.fault, t.fcode)) (onBus (answer 1#3 0x42#40 0)) =
    some (true, .spuriousRsp) := by decide

/-- V-F-7: reset wins over the response of the same edge, and clears a fault (V-F-5). -/
theorem test_reset_wins :
    afterStep (fun t => (t.fault, t.st, t.rqOut))
      (((hunting (answer 1#3 0x42#40 0)).raiseFault .cntRange).withSchedule
        { wirePins 77 (answer 1#3 0x42#40 0) with rst := true } [wirePins 0 silent]) = some (false, .hunt, false) := by decide

/-- R73: from reset with `en` = 1 the first edge issues READ1. -/
theorem test_first_edge_requests : afterStep (fun t => (t.rqOut, t.rqKind, t.presented)) (onBus silent) =
    some (true, .read1, none) := by decide

/-- V-H-17: with `en` = 0 it issues nothing. -/
theorem test_disabled_edge_is_idle :
    afterStep (fun t => t.rqOut) ((onBus silent).withSchedule { wirePins 77 silent with en := false } [wirePins 0 silent]) =
      some false := by decide

/-- P1, steps 1 and 2: the ideal source delivers the start marker, and the next POLL would find 5 bytes (R77). -/
theorem test_ideal_source_read1 :
    afterStep (fun t => (t.st, t.env.queue))
      (((onBus silent).request .read1).withSchedule (idealPins 77 (frame 1#16 300#16)) [idealPins 78 []]) =
        some (.accumulate, [0x01#8, 0x00#8, 0x2C#8, 0x01#8, 0x45#8]) := by decide

/-- R94 and W2: the bytes of FRAME(1, 300) and BADFRAME(1, 300, X). -/
theorem test_frames : frame 1#16 300#16 = [0x42#8, 0x01#8, 0x00#8, 0x2C#8, 0x01#8, 0x45#8] ∧
    badFrame 1#16 300#16 0x58#8 = [0x42#8, 0x01#8, 0x00#8, 0x2C#8, 0x01#8, 0x58#8] := by decide

/-- R57, R9: the port carries the count saturated (V-P-5, `AVW` = 16). -/
theorem test_avail_saturates : portAvail Config.defaults 70000 = 65535 ∧ portAvail Config.defaults 4 = 4 := by decide

/-- R60, R63, R66: a sample goes to the sample sink as a line, a reject to the diagnostic sink with its bytes (W1, V-SP-2), an
Idle to neither (R67). -/
theorem test_sinks : (PortOutcome.sample 1#16 300#16 9).sampleSink = some ("1 300 " ++ Config.hostTimeText 9 ++ "\n") ∧
    (PortOutcome.rejected .shortPacket 3#3 0x00002C0001#40).diagnosticSink =
      some (.shortPacket, [0x01#8, 0x00#8, 0x2C#8]) ∧
        PortOutcome.idle.sampleSink = none ∧ PortOutcome.idle.diagnosticSink = none :=
  ⟨rfl, by decide, rfl, rfl⟩

/-- R80, R81, R85, R86, R87: the codes of the tables. -/
theorem test_port_codes : [ReqKind.read1.code, ReqKind.poll.code, ReqKind.read5.code] = [0b01#2, 0b10#2, 0b11#2] ∧
    [CtlState.accumulate.code, CtlState.validate.code] = [0b01#2, 0b10#2] ∧
      [OutKind.sample.code, OutKind.rejected.code] = [0b01#2, 0b10#2] ∧
        [FCode.cntRange.code, FCode.spuriousRsp.code, FCode.illegalState.code] = [0b01#2, 0b10#2, 0b11#2] ∧
          [RejCode.shortPacket.code, RejCode.badTerminator.code, RejCode.unexpectedByte.code, RejCode.packetTimeout.code] =
            [0b001#3, 0b010#3, 0b011#3, 0b100#3] := by decide

/-! ## The end of a run, and the launch premises (R244, R245) -/

/-- HUNT with a READ1 that delivers nothing, and `en` now and after the edge as given. -/
def lastEdge (now after : Bool) : State :=
  (hunting (answer 0#3 0#40 0)).withSchedule { wirePins 77 (answer 0#3 0#40 0) with en := now }
    [{ wirePins 0 silent with en := after }, wirePins 0 silent]

/-- R244: it is `en` after the edge that ends the run; R101: at the edge itself, with a READ1 outstanding, `en` is ignored. -/
theorem test_run_ended : afterStep (fun t => decide (RunEnded t)) (lastEdge true false) = some true ∧
    afterStep (fun t => decide (RunEnded t)) (lastEdge false true) = some false := by decide

/-- R244: a state with a request outstanding is never the end of a run. -/
theorem test_run_not_ended : ¬ RunEnded ((hunting silent).withSchedule { wirePins 0 silent with en := false } []) := by decide

/-- R245 SRC_QUIET, R233 step 2: a response that is pending at the fall of `rst` and comes one edge later, before any request,
is not quiet. -/
theorem test_late_pending_response_is_not_quiet :
    ¬ SrcQuiet 2 ((onBus silent).withSchedule { wirePins 77 silent with en := false }
      [wirePins 78 (answer 1#3 0x42#40 0), wirePins 0 silent]) := by
  intro h
  have hv := h 1 (by decide) _ rfl rfl (fun k hk u hu => by interval_cases k <;> cases hu <;> rfl)
  exact absurd hv (by decide)

/-- R64, R65: an outcome presented while the sinks do not take is lost to them, and is emitted all the same. -/
theorem test_lost_outcome :
    (emissions 1 ((validating 5#3 0x45012C0001#40).withSchedule (wirePins 77 silent)
        [{ wirePins 0 silent with sinkTakes := false }, wirePins 0 silent])).length = 1 ∧
      (recorded 1 ((validating 5#3 0x45012C0001#40).withSchedule (wirePins 77 silent)
        [{ wirePins 0 silent with sinkTakes := false }, wirePins 0 silent])).length = 0 := by decide

/-! ## The field extractor: V-LE-2, V-LE-4, V-LE-7, V-LE-8, V-LE-9 -/

theorem test_le16 : le16 0xFF#8 0xFF#8 = 65535#16 ∧ le16 0x00#8 0x01#8 = 256#16 ∧ le16 0x2C#8 0x01#8 = 300#16 ∧
    le16 0x34#8 0x12#8 = 4660#16 ∧ le16 0x42#8 0x0A#8 = 2626#16 := by decide

/-! ## A key placed by the host is what the next step runs: rows 1, 7, 12, 13 -/

theorem test_placed_start : afterStep (fun t => t.st) (State.reset.withFetchWord 16 0x0142) = some .accumulate := by decide

theorem test_placed_timeout : afterStep (fun t => t.presented) (State.reset.withFetchWord 16 0x4800) =
    some (some (.rejected .packetTimeout 0#3 0#40)) := by decide

theorem test_placed_badterm : afterStep (fun t => t.presented) (State.reset.withFetchWord 16 0x8558) =
    some (some (.rejected .badTerminator 5#3 0x5800000000#40)) := by decide

theorem test_placed_cntfault : afterStep (fun t => t.fcode) (State.reset.withFetchWord 16 0x8745) =
    some .illegalState := by decide

/-! ## Witnesses: for every obligation with hypotheses, states and operands that meet them together -/

/-- The ranges of the operations, at their ends. -/
theorem witness_DecodeEncodeAgree : (Instr.huntUnexpected 0x43#8).WellFormed ∧ (Instr.huntCntfault 7#3 0xFF#8).WellFormed ∧
    (Instr.accR5Cntfault 6#3).WellFormed ∧ (Instr.accR5Accept 5#3).WellFormed ∧ (Instr.valBadterm 0x44#8).WellFormed ∧
      (Instr.valCntfault 6#3 0x45#8).WellFormed ∧ (Instr.valShort 4#3 0xFF#8).WellFormed := by decide

theorem witness_EventKeyMirrorsState : (hunting silent).Inv ∧ (hunting silent).rqOut = true ∧ (polling silent).Inv ∧
    (polling silent).rqOut = true ∧ (reading silent).Inv ∧ (reading silent).rqOut = true :=
  ⟨by decide, by decide, by decide, by decide, by decide, by decide⟩

/-- The byte of HuntStartRule's and HuntNewlineRule's last clauses, and HuntUnexpectedRule's. -/
theorem witness_HuntUnexpectedRule : ∃ b : Byte, b ≠ 0x42#8 ∧ b ≠ 0x0A#8 := ⟨0x43#8, by decide⟩

theorem witness_HuntUnexpectedRule_lanes : ∃ i, 1 ≤ i ∧ i ≤ 4 := ⟨4, by decide⟩

theorem witness_HuntCntfaultRule : 2#3 ≤ 2#3 ∧ 2#3 ≤ 7#3 := by decide

theorem witness_AccPollReadyRule : ∃ a, 5 ≤ a := ⟨5, by decide⟩

theorem witness_AccPollWaitRule :
    (4 < 5 ∧ ((polling silent).params.pktTimeout = 0 ∨ (polling silent).tmo + 1 < (polling silent).params.pktTimeout)) ∧
      (4 < 5 ∧ ((withTimeout 3 1 (polling silent)).params.pktTimeout = 0 ∨
        (withTimeout 3 1 (polling silent)).tmo + 1 < (withTimeout 3 1 (polling silent)).params.pktTimeout)) := by decide

theorem witness_AccPollTimeoutRule : 4 < 5 ∧ (withTimeout 3 2 (polling silent)).params.pktTimeout ≠ 0 ∧
    (withTimeout 3 2 (polling silent)).params.pktTimeout ≤ (withTimeout 3 2 (polling silent)).tmo + 1 := by decide

/-- With the lane of its last clause. -/
theorem witness_AccR5AcceptRule : 0#3 ≤ 5#3 ∧ 5#3 ≤ 5#3 ∧ ∃ i, i < 5 := ⟨by decide, by decide, 4, by decide⟩

/-- Both cases of its last clause: the timeout fires on the third poll and not on the second. -/
theorem witness_PacketTimeoutFiresOnNthPoll :
    ∃ (s : State) (polls : List (Nat × Env)), s.params.Ok ∧ s.params.pktTimeout ≠ 0 ∧ s.tmo = 0 ∧
      (∀ p ∈ polls, p.1 < 5) ∧
      polls.length < s.params.pktTimeout ∧ polls.length + 1 = s.params.pktTimeout :=
  ⟨withTimeout 3 0 (polling silent), [(4, (onBus silent).env), (0, (polling silent).env)], by decide⟩

theorem witness_PacketTimeoutFiresOnNthPoll_earlier :
    ∃ (s : State) (polls : List (Nat × Env)), s.params.Ok ∧ s.params.pktTimeout ≠ 0 ∧ s.tmo = 0 ∧
      (∀ p ∈ polls, p.1 < 5) ∧
      polls.length < s.params.pktTimeout ∧ polls.length + 1 ≠ s.params.pktTimeout :=
  ⟨withTimeout 3 0 (polling silent), [(4, (onBus silent).env)], by decide⟩

theorem witness_AccR5CntfaultRule : 6#3 ≤ 6#3 ∧ 6#3 ≤ 7#3 := by decide

theorem witness_ValShortRule : (validating 4#3 0x00012C0001#40).cnt ≤ 4#3 ∧ (validating 0#3 0#40).cnt ≤ 4#3 := by decide

theorem witness_ValBadtermRule : (validating 5#3 0x44012C0001#40).cnt = 5#3 ∧
    (validating 5#3 0x44012C0001#40).buf.extractLsb' 32 8 ≠ 0x45#8 := by decide

theorem witness_ValSampleRule : (validating 5#3 0x45012C0001#40).cnt = 5#3 ∧
    (validating 5#3 0x45012C0001#40).buf.extractLsb' 32 8 = 0x45#8 := by decide

theorem witness_ValCntfaultRule : 6#3 ≤ (validating 6#3 0#40).cnt ∧ 6#3 ≤ (validating 7#3 0#40).cnt := by decide

/-- Every clause's premise: an operation none of the "written by" clauses names, with the strobe raised. -/
theorem witness_OperationsWriteOnlyTheirRegisters : ∃ t, exec .huntNewline (hunting silent) = .next t ∧
    t.outValid = true ∧ (hunting silent).outValid = false := ⟨_, rfl, by decide⟩

/-- The clause of the operations that leave the outcome port alone. -/
theorem witness_OperationsWriteOnlyTheirRegisters_quiet :
    (∃ t, exec .huntStart (hunting silent) = .next t) ∧ (∃ t, exec (.accPollReady true) (polling silent) = .next t) ∧
      (∃ t, exec .accPollWait (polling silent) = .next t) ∧ ∃ t, exec (.accR5Accept 5#3) (reading silent) = .next t :=
  ⟨⟨_, rfl⟩, ⟨_, rfl⟩, ⟨_, rfl⟩, _, rfl⟩

/-- The clause of the operations that raise a fault. -/
theorem witness_OperationsWriteOnlyTheirRegisters_fault :
    (∃ t, exec (.huntCntfault 2#3 0x42#8) (hunting silent) = .next t) ∧
      (∃ t, exec (.accR5Cntfault 6#3) (reading silent) = .next t) ∧
        (∃ t, exec (.valCntfault 7#3 0x45#8) (validating 7#3 0#40) = .next t) ∧
          ∃ t, exec .illegalState (hunting silent) = .next t := ⟨⟨_, rfl⟩, ⟨_, rfl⟩, ⟨_, rfl⟩, _, rfl⟩

theorem witness_Le16IsBijection : le16 0x2C#8 0x01#8 = 300#16 := by decide

/-- W7: a frame cycle with the two waiting polls of P4. -/
theorem witness_FrameCycleEmitsItsSample :
    ∃ (s s1 : State) (polls : List (Nat × Env)), exec .huntStart s = .next s1 ∧ (∀ p ∈ polls, p.1 < 5) ∧
      s.params.pktTimeout = 0 ∧ polls.length = 2 :=
  ⟨hunting (answer 1#3 0x42#40 0), _, [(0, (onBus silent).env), (3, (polling silent).env)], rfl, by decide⟩

/-- With a packet timeout of 3, after which two polls below 5 are still too few, and the premises of the READ5 (P4). -/
theorem witness_FrameCycleEmitsItsSample_timeout :
    ∃ (s s1 s2 : State) (polls : List (Nat × Env)) (e3 : Env) (a : Nat), exec .huntStart s = .next s1 ∧ (∀ p ∈ polls, p.1 < 5) ∧
      polls.length < s.params.pktTimeout ∧ performPolls polls s1 = .next s2 ∧ 5 ≤ a ∧
        (s2.setEnv e3).bus.data.extractLsb' 32 8 = 0x45#8 :=
  ⟨withTimeout 3 0 (hunting (answer 1#3 0x42#40 0)), _, _, [(0, (onBus silent).env), (3, (polling silent).env)],
    (reading (answer 5#3 0x4500FF1234#40 0)).env, 5, rfl, by decide, by decide, rfl, by decide, by decide⟩

theorem witness_StepRunsDecodedOperation_accept :
    ∃ (s : State) (e : Event) (i : Instr), Live s ∧ s.rqOut = true ∧ s.bus.valid = true ∧
      responseEvent s.rqKind s.bus = some e ∧ decode (eventKey s e) = .ok i :=
  ⟨reading (answer 5#3 0x45012C0001#40 0), .r5 5#3 0x45012C0001#40, .accR5Accept 5#3, by decide⟩

theorem witness_StepRunsDecodedOperation_validate :
    ∃ (s : State) (i : Instr), Live s ∧ s.st = .validate ∧ s.rqOut = false ∧ s.bus.valid = false ∧
      decode (eventKey s .val) = .ok i := ⟨validating 5#3 0x45012C0001#40, .valSample, by decide⟩

theorem witness_StepRunsDecodedOperation_illegal :
    ∃ (s : State) (i : Instr), s.env.pins.rst = false ∧ s.fault = false ∧ s.st = .illegal ∧ decode illegalKey = .ok i :=
  ⟨(onBus silent).setSt .illegal, .illegalState, by decide⟩

/-- The reset state with `rst` high at the coming edge. -/
def resetting : State := (onBus silent).withSchedule { wirePins 77 silent with rst := true } [wirePins 0 silent]

theorem witness_ResetEdge : resetting.env.pins.rst = true := by decide

theorem witness_FaultHeldUntilReset :
    ((onBus silent).raiseFault .cntRange).fault = true ∧ ((onBus silent).raiseFault .cntRange).env.pins.rst = false ∧
      (resetting.raiseFault .cntRange).fault = true ∧ (resetting.raiseFault .cntRange).env.pins.rst = true := by decide

theorem witness_SpuriousResponseFaults : ∃ s : State, Live s ∧ s.bus.valid = true ∧ s.rqOut = false :=
  ⟨onBus (answer 0#3 0#40 0), by decide⟩

theorem witness_IllegalStateFaultsAtTheEdge : ∃ s : State, s.env.pins.rst = false ∧ s.fault = false ∧ s.st = .illegal :=
  ⟨(hunting (answer 1#3 0x42#40 0)).setSt .illegal, by decide⟩

theorem witness_IllegalStateFaultsAtTheEdge_validate :
    ∃ s : State, Live s ∧ s.st = .validate ∧ 6#3 ≤ s.cnt ∧ s.rqOut = false ∧ s.bus.valid = false :=
  ⟨validating 6#3 0#40, by decide⟩

theorem witness_CountRangeFaultsAtTheEdge :
    ∃ s : State, Live s ∧ s.rqOut = true ∧ s.bus.valid = true ∧ s.rqKind = .read1 ∧ 2#3 ≤ s.bus.cnt :=
  ⟨hunting (answer 2#3 0x42#40 0), by decide⟩

theorem witness_CountRangeFaultsAtTheEdge_read5 :
    ∃ s : State, Live s ∧ s.rqOut = true ∧ s.bus.valid = true ∧ s.rqKind = .read5 ∧ 6#3 ≤ s.bus.cnt :=
  ⟨reading (answer 6#3 0#40 0), by decide⟩

theorem witness_FaultEntryIsPrecise : ∃ s t : State, step s = .next t ∧ s.fault = false ∧ t.fault = true :=
  ⟨hunting (answer 2#3 0x42#40 0), _, rfl, by decide, by decide⟩

theorem witness_FaultEntryIsPrecise_held : ∃ s : State, s.fault = true ∧ s.env.pins.rst = false :=
  ⟨(onBus (answer 1#3 0x42#40 0)).raiseFault .spuriousRsp, by decide⟩

theorem witness_RequestIssueAndHold_enabled :
    ∃ s : State, Live s ∧ s.bus.valid = false ∧ s.rqOut = false ∧ s.st = .hunt ∧ s.env.pins.en = true :=
  ⟨onBus silent, by decide⟩

/-- Also EnableReadOnlyToIssueRead1's first clause. -/
theorem witness_RequestIssueAndHold_disabled :
    ∃ s : State, Live s ∧ s.bus.valid = false ∧ s.rqOut = false ∧ s.st = .hunt ∧ s.env.pins.en = false :=
  ⟨State.reset, by decide⟩

theorem witness_RequestIssueAndHold_accumulate :
    ∃ s : State, Live s ∧ s.bus.valid = false ∧ s.rqOut = false ∧ s.st = .accumulate :=
  ⟨(onBus silent).setSt .accumulate, by decide⟩

theorem witness_RequestIssueAndHold_held : ∃ s : State, Live s ∧ s.bus.valid = false ∧ s.rqOut = true :=
  ⟨reading silent, by decide⟩

theorem witness_ValidateEndsTheFrameCycle :
    ∃ s : State, Live s ∧ s.st = .validate ∧ s.cnt ≤ 5#3 ∧ s.rqOut = false ∧ s.bus.valid = false :=
  ⟨validating 5#3 0x45012C0001#40, by decide⟩

theorem witness_ValidateEndsTheFrameCycle_short :
    ∃ s : State, Live s ∧ s.st = .validate ∧ s.cnt < 5#3 ∧ s.rqOut = false ∧ s.bus.valid = false :=
  ⟨validating 4#3 0x00012C0001#40, by decide⟩

/-- Also StepKeepsParameters and StepAnswersUnderInvariant. -/
theorem witness_StepKeepsInvariant : ∃ s t : State, s.Inv ∧ step s = .next t :=
  ⟨validating 5#3 0x45012C0001#40, _, by decide, rfl⟩

theorem witness_ReachableStatesMeetControlRules :
    ∃ s : State, ResetClean s ∧ ParamsFixed s ∧ ∃ t, stateAfter 1 s = some t := ⟨onBus silent, by decide, by decide, _, rfl⟩

/-- Its clauses about `armed` and VALIDATE: two states of a run, one edge before each. -/
theorem witness_ReachableStatesMeetControlRules_clauses :
    (∃ t, stateAfter 1 (polling (answer 0#3 0#40 5)) = some t ∧ t.armed = true) ∧
      ∃ t, stateAfter 1 (reading (answer 2#3 0xFFFFFFBBAA#40 0)) = some t ∧ t.st = .validate ∧ t.cnt.toNat ≤ 2 :=
  ⟨⟨_, rfl, by decide⟩, _, rfl, by decide⟩

theorem witness_OutcomesResynchronise : ∃ s t : State, s.Inv ∧ step s = .next t ∧ t.outValid = true :=
  ⟨validating 5#3 0x58012C0001#40, _, by decide, rfl, by decide⟩

/-- A launched run: the first edge issues READ1, the second is answered with the start marker. -/
def launched : State := (onBus silent).withSchedule (wirePins 77 silent) [wirePins 78 (answer 1#3 0x42#40 0), wirePins 0 silent]

theorem witness_LaunchedRunNeverFaults : LaunchPremises 2 launched := by
  refine ⟨by decide, ?_, by decide, ?_, ?_⟩
  · intro m hm t h _ hq
    interval_cases m <;> cases h
    · rfl
    · exact absurd (hq 1 (by decide) _ rfl) (by decide)
  · intro m hm t h
    interval_cases m <;> cases h <;> decide
  · intro m hm t h _ _ _
    interval_cases m <;> cases h <;> rfl

theorem witness_EndedRunIsQuiescent :
    ∃ s : State, RunEnded s ∧
      BeforeEachEdge (fun u => u.env.pins.en = false ∧ u.env.pins.rst = false ∧ u.SrcConforms) 2 s := by
  refine ⟨((onBus silent).emit .idle).withSchedule { wirePins 77 silent with en := false }
    [{ wirePins 78 silent with en := false }, wirePins 0 silent], by decide, ?_⟩
  intro m hm t h
  interval_cases m <;> cases h <;> decide

theorem witness_ReadySinksRecordTheRun_nothing :
    (∃ s t : State, step s = .next t ∧ t.env.pins.sinkTakes = false) ∧ ∃ s t : State, step s = .next t ∧ t.outValid = false :=
  ⟨⟨(validating 5#3 0x45012C0001#40).withSchedule (wirePins 77 silent) [{ wirePins 0 silent with sinkTakes := false }],
    _, rfl, by decide⟩, onBus silent, _, rfl, by decide⟩

/-- VALIDATE's three cases: 4 bytes, a sample, a wrong end marker. -/
theorem witness_ReadySinksRecordTheRun_validate :
    ∀ s ∈ [validating 4#3 0x00012C0001#40, validating 5#3 0x45012C0001#40, validating 5#3 0x44012C0001#40],
      Live s ∧ s.st = .validate ∧ s.rqOut = false ∧ s.bus.valid = false ∧ s.cnt ≤ 5#3 ∧
        afterStep (fun t => t.env.pins.sinkTakes) s = some true := by decide

/-- HUNT's three: no byte, a newline, another byte. -/
theorem witness_ReadySinksRecordTheRun_hunt :
    ∀ s ∈ [hunting (answer 0#3 0#40 0), hunting (answer 1#3 0x0A#40 0), hunting (answer 1#3 0x45#40 0)],
      Live s ∧ s.rqOut = true ∧ s.rqKind = .read1 ∧ s.bus.valid = true ∧ s.bus.data.extractLsb' 0 8 ≠ 0x42#8 ∧
        afterStep (fun t => t.env.pins.sinkTakes) s = some true := by decide

theorem witness_ReadySinksRecordTheRun_timeout :
    ∃ s : State, Live s ∧ s.rqOut = true ∧ s.rqKind = .poll ∧ s.bus.valid = true ∧ s.bus.avail < 5 ∧
      s.params.pktTimeout ≠ 0 ∧ s.params.pktTimeout ≤ s.tmo + 1 ∧
        afterStep (fun t => t.env.pins.sinkTakes) s = some true := ⟨withTimeout 3 2 (polling (answer 0#3 0#40 4)), by decide⟩

theorem witness_ReadySinksRecordTheRun : SinkReady 1 (validating 5#3 0x45012C0001#40) := by
  intro m hm t h _ _ _
  interval_cases m <;> cases h <;> rfl

theorem witness_SinksNeverReachARegister : (validating 5#3 0x45012C0001#40).Inv := by decide

theorem witness_ConformingSourceNeverFaults : ∃ s t : State, s.Inv ∧ s.fault = false ∧ s.SrcConforms ∧ step s = .next t :=
  ⟨hunting (answer 1#3 0x42#40 0), _, by decide, by decide, by decide, rfl⟩

theorem witness_ConformingSourceNeverFaults_read5 :
    ∃ s t : State, s.Inv ∧ s.fault = false ∧ s.SrcConforms ∧ step s = .next t :=
  ⟨reading (answer 5#3 0x45012C0001#40 0), _, by decide, by decide, by decide, rfl⟩

theorem witness_HuntLeftOnlyByStartMarker : ∃ s t : State, s.Inv ∧ s.st = .hunt ∧ step s = .next t ∧ t.st ≠ .hunt :=
  ⟨hunting (answer 1#3 0x42#40 0), _, by decide, by decide, rfl, by decide⟩

theorem witness_UnboundedWaitIsKept :
    ∃ s : State, s.Inv ∧ s.params.pktTimeout = 0 ∧ s.st = .accumulate ∧ s.armed = false ∧ s.fault = false ∧
      s.env.pins.rst = false ∧ s.SrcConforms ∧ (s.bus.valid = true → s.bus.avail < 5) := ⟨polling (answer 0#3 0#40 4), by decide, by decide⟩

/-- The edge with no response, whatever `rsp_avail` shows. -/
theorem witness_UnboundedWaitIsKept_silent :
    ∃ s : State, s.Inv ∧ s.params.pktTimeout = 0 ∧ s.st = .accumulate ∧ s.armed = false ∧ s.fault = false ∧
      s.env.pins.rst = false ∧ s.SrcConforms ∧ (s.bus.valid = true → s.bus.avail < 5) ∧ 5 ≤ s.bus.avail :=
  ⟨polling { silent with avail := 7 }, by decide, by decide⟩

theorem witness_StrobesAreNeverAdjacent : ∃ s t : State, s.Inv ∧ s.outValid = true ∧ step s = .next t :=
  ⟨(onBus silent).emit .idle, _, by decide, by decide, rfl⟩

theorem witness_HostTimeWritten_captured : ∃ s t : State, step s = .next t ∧ s.env.pins.rst = false ∧ t.tCap ≠ s.tCap :=
  ⟨hunting (answer 1#3 0x42#40 0), _, rfl, by decide, by decide⟩

theorem witness_HostTimeWritten_sampled :
    ∃ s t : State, step s = .next t ∧ s.env.pins.rst = false ∧ t.smpTime ≠ s.smpTime :=
  ⟨validating 5#3 0x45012C0001#40, _, rfl, by decide, by decide⟩

theorem witness_OutcomeFieldsHeld_sample :
    ∃ s t : State, step s = .next t ∧ s.env.pins.rst = false ∧
      ¬ (t.smpTs = s.smpTs ∧ t.smpRd = s.smpRd ∧ t.smpTime = s.smpTime) :=
  ⟨validating 5#3 0x45012C0001#40, _, rfl, by decide, by decide⟩

theorem witness_OutcomeFieldsHeld_reject :
    ∃ s t : State, step s = .next t ∧ s.env.pins.rst = false ∧
      ¬ (t.rejCode = s.rejCode ∧ t.rejCnt = s.rejCnt ∧ t.rejData = s.rejData) :=
  ⟨hunting (answer 1#3 0x45#40 0), _, rfl, by decide, by decide⟩

theorem witness_HostTimeSampledOnlyAtStart : AcceptsStart (hunting (answer 1#3 0x42#40 0)) := by decide

theorem witness_HostTimeSampledOnlyAtStart_elsewhere :
    (hunting (answer 1#3 0x43#40 0)).Inv ∧ ¬ AcceptsStart (hunting (answer 1#3 0x43#40 0)) := by decide

theorem witness_EnableReadOnlyToIssueRead1_issued :
    ∃ s t : State, step s = .next t ∧ s.rqOut = false ∧ t.rqOut = true ∧ t.rqKind = .read1 :=
  ⟨onBus silent, _, rfl, by decide, by decide, by decide⟩

theorem witness_EnableReadOnlyToIssueRead1 : (polling silent).Inv ∧ (polling silent).st ≠ .hunt ∧ (hunting silent).Inv ∧
    (hunting silent).rqOut = true := ⟨by decide, by decide, by decide, by decide⟩

theorem witness_IgnoredBusFieldsReachNoRegister :
    ∃ (s : State) (a b : Bus), s.Inv ∧ s.rqOut = true ∧ a.valid = b.valid ∧ s.rqKind = .read5 ∧ a.cnt = b.cnt ∧
      (∀ i, i < 5 → i < a.cnt.toNat → a.data.extractLsb' (8 * i) 8 = b.data.extractLsb' (8 * i) 8) ∧ a ≠ b :=
  ⟨reading silent, answer 2#3 0xFFFFFFBBAA#40 7, answer 2#3 0x000000BBAA#40 3, by decide⟩

theorem witness_IgnoredBusFieldsReachNoRegister_poll :
    ∃ (s : State) (a b : Bus), s.Inv ∧ s.rqOut = true ∧ a.valid = b.valid ∧ s.rqKind = .poll ∧
      (5 ≤ a.avail ↔ 5 ≤ b.avail) ∧ a ≠ b := ⟨polling silent, answer 2#3 0#40 5, answer 7#3 0x42#40 70000, by decide⟩

/-- State `st` with a request of kind `k` that the ideal source answers, after `arrivals`. -/
def ideal (st : CtlState) (k : ReqKind) (arrivals : List Byte) : State :=
  (((onBus silent).setSt st).request k).withSchedule (idealPins 77 arrivals) [idealPins 78 []]

/-- READ1 with an empty and with a filled queue, POLL, READ5, at an edge at which the block takes the response. -/
theorem witness_IdealSourceAnswers :
    (ideal .hunt .read1 []).env.pins.src = .ideal [] true ∧ (ideal .hunt .read1 []).rqOut = true ∧
      (ideal .hunt .read1 []).rqKind = .read1 ∧ (ideal .hunt .read1 []).env.queue ++ [] = [] := by decide

theorem witness_IdealSourceAnswers_bytes :
    ∃ (s : State) (arrivals : List Byte) (b : Byte) (q : List Byte), s.env.pins.src = .ideal arrivals true ∧ s.rqOut = true ∧
      s.rqKind = .read1 ∧ s.env.queue ++ arrivals = b :: q :=
  ⟨ideal .hunt .read1 [0x42#8, 0x01#8], [0x42#8, 0x01#8], 0x42#8, [0x01#8], by decide⟩

theorem witness_IdealSourceAnswers_poll_read5 :
    (ideal .accumulate .poll [0x01#8]).env.pins.src = .ideal [0x01#8] true ∧ (ideal .accumulate .poll [0x01#8]).rqOut = true ∧
      (ideal .accumulate .poll [0x01#8]).rqKind = .poll ∧
        (ideal .accumulate .read5 [0x01#8]).env.pins.src = .ideal [0x01#8] true ∧
          (ideal .accumulate .read5 [0x01#8]).rqOut = true ∧ (ideal .accumulate .read5 [0x01#8]).rqKind = .read5 := by decide

/-- The premises of what these edges leave in the queue. -/
theorem witness_IdealSourceAnswers_queue :
    ∀ s ∈ [ideal .hunt .read1 [], ideal .hunt .read1 [0x42#8, 0x01#8], ideal .accumulate .poll [0x01#8],
        ideal .accumulate .read5 [0x01#8]],
      s.env.pins.rst = false ∧ s.fault = false ∧ s.st ≠ .illegal ∧ (nextOf (step s)).isSome = true := by decide

theorem witness_PlacedKeyRuns : State.reset.params.Ok := by decide

end Sys2Proof.Tests
end

section
/-! PROOF. The state right after reset (10_state.md, section 6). -/

namespace Sys2Proof.Machine

/-- Settles O28. The state right after reset is one literal state, so each row of R41's table compares two constants: the
model's field (or the spec's code of it) with the value the spec lists. -/
theorem resetValues : Obligations.ResetValues := by
  unfold Obligations.ResetValues
  decide

end Sys2Proof.Machine
end

section
/-! PROOF. What an edge reads of its environment: issuing and holding a request (R73), and sampling the host time (R78). -/

namespace Sys2Proof.Machine

open Sys2Proof.Claims

variable {s : State} {e : Env}

/-! ## The request an idle edge issues (R52, R73, R101) -/

/-- HUNT asks for a byte if `en` is high. -/
theorem requestDue_hunt (hs : s.st = .hunt) : requestDue s = if s.env.pins.en then some .read1 else none := by
  simp only [requestDue, hs]

/-- ACCUMULATE always asks: for the packet if `armed`, else for the count. -/
theorem requestDue_accumulate (hs : s.st = .accumulate) :
    requestDue s = some (if s.armed then .read5 else .poll) := by
  simp only [requestDue, hs]
  split <;> rfl

theorem issueRequest_of_due {k : ReqKind} (h : requestDue s = some k) : issueRequest s = s.request k := by
  simp only [issueRequest, h]

theorem issueRequest_of_not_due (h : requestDue s = none) : issueRequest s = s := by
  simp only [issueRequest, h]

/-- Settles O36. Each clause is one case of the edge: issuing what is due in the state (the first three), or waiting. -/
theorem requestIssueAndHold : Obligations.RequestIssueAndHold := by
  unfold Obligations.RequestIssueAndHold
  intro s ⟨hr, hf, hs⟩ hv
  refine ⟨fun hq hst hen => ?read1, fun hq hst hen => ?idle, fun hq hst => ?accumulate, fun hq => ?held⟩
  case read1 =>
    have hdue : requestDue s.clearStrobe = some .read1 := (requestDue_hunt hst).trans (if_pos hen)
    rw [step_of_edge (edge_issue hr hf hs (by simp [hst]) hv hq), issueRequest_of_due hdue]
    rfl
  case idle =>
    have hdue : requestDue s.clearStrobe = none := (requestDue_hunt hst).trans (if_neg (ne_true_of_eq_false hen))
    rw [step_of_edge (edge_issue hr hf hs (by simp [hst]) hv hq), issueRequest_of_not_due hdue]
    rfl
  case accumulate =>
    have hdue : requestDue s.clearStrobe = some (if s.armed then .read5 else .poll) := requestDue_accumulate hst
    rw [step_of_edge (edge_issue hr hf hs (by simp [hst]) hv hq), issueRequest_of_due hdue]
    rfl
  case held =>
    rw [step_of_edge (edge_wait hr hf hs hv hq)]
    rfl

/-! ## The same edge in another environment

`s.setEnv e` is `s` with other inputs. An edge reads of them `rst`, `rsp_valid`, `en` where a READ1 is due, and what an accepted
response carries; where these agree, the edge does the same to every register. -/

@[simp] theorem eventKey_setEnv (s : State) (e : Env) (ev : Event) : eventKey (s.setEnv e) ev = eventKey s ev := by
  cases ev <;> rfl

/-- A response is accepted alike in two environments where it selects the same operation, and that operation reads the same
host time and the same lanes. -/
theorem acceptResponse_setEnv {ev ev' : Event} {i : Instr}
    (hev : responseEvent s.rqKind s.bus = some ev) (hev' : responseEvent s.rqKind (s.setEnv e).bus = some ev')
    (hi : decode (eventKey s ev) = .ok i) (hi' : decode (eventKey s ev') = .ok i)
    (htime : i = .huntStart → (s.setEnv e).hostTime = s.hostTime)
    (hlanes : ∀ k, i = .accR5Accept k → maskLanes k (s.setEnv e).bus.data = maskLanes k s.bus.data) :
    ∃ t, acceptResponse s = .next t ∧ acceptResponse (s.setEnv e) = .next (t.setEnv e) := by
  obtain ⟨u, hu, hu'⟩ := exec_setEnv i s e htime hlanes
  refine ⟨if u.fault then u else u.clearRequest, ?_, ?_⟩
  · simp only [acceptResponse, hev, perform, hi, hu, settle]
  · simp only [acceptResponse, State.setEnv_rqKind, hev', eventKey_setEnv, perform, hi', hu', settle,
      State.setEnv_fault, apply_ite (State.setEnv · e)]
    rfl

/-- The operations of VALIDATE read nothing of the environment (log 16). -/
theorem perform_val_setEnv (s : State) (e : Env) :
    ∃ t, perform (eventKey s .val) s.clearStrobe = .next t ∧
      perform (eventKey s .val) (s.clearStrobe.setEnv e) = .next (t.setEnv e) := by
  simp only [perform, decode_eventKey_val]
  split_ifs <;> exact ⟨_, rfl, rfl⟩

/-- Issuing reads `en` only where a READ1 is due (R101). -/
theorem issueRequest_setEnv (hen : s.st = .hunt → e.pins.en = s.env.pins.en) :
    issueRequest (s.setEnv e) = (issueRequest s).setEnv e := by
  have hdue : requestDue (s.setEnv e) = requestDue s := by
    cases hs : s.st with
    | hunt => simp [requestDue_hunt, hs, hen]
    | accumulate => exact (requestDue_accumulate (s := s.setEnv e) hs).trans (requestDue_accumulate hs).symm
    | validate | illegal => simp [requestDue, hs]
  simp only [issueRequest, hdue]
  split <;> rfl

/-- Two environments in which an edge does the same to every register. -/
theorem edge_setEnv (hrst : e.pins.rst = s.env.pins.rst) (hvalid : (s.setEnv e).bus.valid = s.bus.valid)
    (hen : s.st = .hunt → s.rqOut = false → e.pins.en = s.env.pins.en)
    (haccept : s.env.pins.rst = false → s.fault = false → s.st ≠ .illegal → s.rqOut = true → s.bus.valid = true →
      ∃ t, acceptResponse s.clearStrobe = .next t ∧ acceptResponse (s.clearStrobe.setEnv e) = .next (t.setEnv e)) :
    ∃ t, edge s = .next t ∧ edge (s.setEnv e) = .next (t.setEnv e) := by
  cases hr : s.env.pins.rst with
  | true => exact ⟨_, edge_reset hr, edge_reset (hrst.trans hr)⟩
  | false =>
  have hr' : (s.setEnv e).env.pins.rst = false := hrst.trans hr
  cases hf : s.fault with
  | true => exact ⟨_, edge_faulted hr hf, edge_faulted hr' hf⟩
  | false =>
  by_cases hs : s.st = .illegal
  · rw [edge_illegal hr hf hs, edge_illegal hr' hf hs]
    simp only [perform, decode_illegalKey]
    exact ⟨_, rfl, rfl⟩
  cases hv : s.bus.valid <;> cases hq : s.rqOut <;> rw [hv] at hvalid
  case false.true => exact ⟨_, edge_wait hr hf hs hv hq, edge_wait hr' hf hs hvalid hq⟩
  case true.false => exact ⟨_, edge_spurious hr hf hs hv hq, edge_spurious hr' hf hs hvalid hq⟩
  case true.true =>
    rw [edge_accept hr hf hs hv hq, edge_accept hr' hf hs hvalid hq]
    exact haccept hr hf hs hq hv
  case false.false =>
    by_cases hval : s.st = .validate
    · rw [edge_validate hr hf hval hv hq, edge_validate hr' hf hval hvalid hq, eventKey_setEnv]
      exact perform_val_setEnv s e
    · refine ⟨_, edge_issue hr hf hs hval hv hq, ?_⟩
      rw [edge_issue hr' hf hs hval hvalid hq]
      exact congrArg _ (issueRequest_setEnv (s := s.clearStrobe) fun h => hen h hq)

/-- Edges that do the same to every register make steps that agree on every register. -/
theorem sameNextRegs_of_edge (h : ∃ t, edge s = .next t ∧ edge (s.setEnv e) = .next (t.setEnv e)) :
    SameNextRegs s (s.setEnv e) := by
  obtain ⟨t, ht, ht'⟩ := h
  exact ⟨_, _, step_of_edge ht, step_of_edge ht', rfl⟩

/-! ## The edge that samples the host time (R78, R103) -/

/-- HUNT.START is decoded from a READ1 response of exactly the start marker. -/
theorem eq_r1_of_decode_huntStart {ev : Event} (h : decode (eventKey s ev) = .ok .huntStart) :
    ev = .r1 1#3 Config.startMarker := by
  cases ev with
  | r1 k b =>
    rw [decode_eventKey_r1] at h
    split_ifs at h with hk hb <;> cases h
    rw [hk, hb]
  | poll a => rw [decode_eventKey_poll] at h; split_ifs at h <;> cases h
  | r5 k d => rw [decode_eventKey_r5] at h; split_ifs at h <;> cases h
  | val => rw [decode_eventKey_val] at h; split_ifs at h <;> cases h

/-- A response makes the start marker's event exactly if a READ1 is outstanding and the bus carries that one byte. -/
theorem responseEvent_eq_start_iff {k : ReqKind} {b : Bus} :
    responseEvent k b = some (.r1 1#3 Config.startMarker) ↔
      k = .read1 ∧ b.cnt = 1#3 ∧ b.data.extractLsb' 0 8 = 0x42#8 := by
  cases k <;> simp [responseEvent, lane, Config.startMarker]

/-- A request that the invariant lets be outstanding is of a kind that makes an event (R81). -/
theorem exists_responseEvent (hreq : s.RequestInv) (hq : s.rqOut = true) (b : Bus) :
    ∃ ev, responseEvent s.rqKind b = some ev := by
  obtain ⟨hk, -⟩ | ⟨hk, -⟩ | ⟨hk, -⟩ := hreq hq <;> exact ⟨_, by rw [hk]; rfl⟩

/-- Under the invariant only a READ1 outstanding in HUNT waits for a byte. -/
theorem st_hunt_of_read1 (hreq : s.RequestInv) (hq : s.rqOut = true) (hk : s.rqKind = .read1) : s.st = .hunt := by
  obtain ⟨-, hst⟩ | ⟨hk', -⟩ | ⟨hk', -⟩ := hreq hq
  · exact hst
  all_goals rw [hk] at hk'; cases hk'

/-- The edge that accepts the start marker captures the host time (R103). -/
theorem step_captures_hostTime (h : AcceptsStart s) : ∃ t, step s = .next t ∧ t.tCap = s.hostTime := by
  obtain ⟨hr, hf, hs, hq, hk, hv, hc, hb⟩ := h
  have hev : responseEvent s.clearStrobe.rqKind s.clearStrobe.bus = some (.r1 1#3 Config.startMarker) :=
    responseEvent_eq_start_iff.2 ⟨hk, hc, hb⟩
  have hi : decode (eventKey s.clearStrobe (.r1 1#3 Config.startMarker)) = .ok .huntStart := decode_eventKey_r1 ..
  have hfault : s.clearStrobe.fault = false := hf
  refine ⟨_, step_of_edge (t := ((((s.clearStrobe.setTCap s.hostTime).setTmo 0).setArmed false).setSt
    .accumulate).clearRequest) ?_, rfl⟩
  rw [edge_accept hr hf (by simp [hs]) hv hq]
  simp only [acceptResponse, hev, perform, hi, exec, execHuntStart, settle, State.setSt_fault, State.setArmed_fault,
    State.setTmo_fault, State.setTCap_fault, hfault]
  rfl

/-- Settles O54. The accepting edge captures the pin; every other edge meets `edge_setEnv`, since only `rst`, `en` and the bus
enter its premises and of the operations only HUNT.START reads the host time. -/
theorem hostTimeSampledOnlyAtStart : Obligations.HostTimeSampledOnlyAtStart := by
  unfold Obligations.HostTimeSampledOnlyAtStart
  refine ⟨fun s h => step_captures_hostTime h, fun s v hinv hstart => ?_⟩
  obtain ⟨-, hreq, -⟩ := hinv
  refine sameNextRegs_of_edge (edge_setEnv rfl rfl (fun _ _ => rfl) fun hr hf _ hq hv => ?_)
  obtain ⟨ev, hev⟩ := exists_responseEvent hreq hq s.bus
  have hi := decode_fields (eventKey s.clearStrobe ev)
  refine acceptResponse_setEnv (s := s.clearStrobe) hev hev hi hi (fun hop => ?_) (fun _ _ => rfl)
  -- HUNT.START would make this the edge that accepts the start marker
  rw [hop] at hi
  rw [eq_r1_of_decode_huntStart hi, responseEvent_eq_start_iff] at hev
  obtain ⟨hk, hc, hb⟩ := hev
  exact absurd ⟨hr, hf, st_hunt_of_read1 hreq hq hk, hq, hk, hv, hc, hb⟩ hstart

end Sys2Proof.Machine
end

section
/-! PROOF. The encodings: the decode key of each event (R89) and the codes on the output wires (R95). -/

namespace Sys2Proof.Machine

open Sys2Proof.Claims

/-! ## The decode key of each event (R88, R89) -/

/-- A key built from fields is the key with those fields. -/
theorem keyIs_keyOf (st : BitVec 2) (armed avok tmo : Bool) (cnt : Count) (kb : Byte) :
    KeyIs (keyOf st armed avok tmo cnt kb) st armed avok tmo cnt kb :=
  keyOf_fields ..

/-- KB carries the byte of a READ1 exactly if one was delivered: a count is at least 1 where it is not 0. -/
theorem r1KeyByte_eq (k : Count) (b : Byte) :
    (if k = 0#3 then 0x00#8 else b) = if 1#3 ≤ k then b else 0x00#8 := by
  have hpos : 1#3 ≤ k ↔ k ≠ 0#3 := by bv_omega
  simp only [hpos, ite_not]

/-- TMO as one condition on the registers, with the sum in `Nat`. -/
theorem tmoFires_eq_decide (p : Params) (n : Nat) :
    tmoFires p n = decide (p.pktTimeout ≠ 0 ∧ p.pktTimeout ≤ n + 1) := by
  rw [Bool.eq_iff_iff]
  simp [tmoFires]

/-- Settles O4. Every key is built from its fields, so `keyIs_keyOf` reads them back; READ1's KB and the poll's TMO are
rewritten into the rule's own conditions first. -/
theorem eventKeyFields : Obligations.EventKeyFields := by
  unfold Obligations.EventKeyFields
  intro s
  refine ⟨fun k b => ?r1, fun a => ?poll, fun _ _ => keyIs_keyOf .., keyIs_keyOf .., keyIs_keyOf ..⟩
  case r1 =>
    rw [← r1KeyByte_eq]
    exact keyIs_keyOf ..
  case poll =>
    rw [← tmoFires_eq_decide]
    exact keyIs_keyOf ..

/-! ## The code tables (R80, R81, R85 to R87) -/

theorem CtlState.code_eq_iff (x : CtlState) :
    (x.code = 0b00#2 ↔ x = .hunt) ∧ (x.code = 0b01#2 ↔ x = .accumulate) ∧
      (x.code = 0b10#2 ↔ x = .validate) ∧ (x.code = 0b11#2 ↔ x = .illegal) := by
  cases x <;> decide

theorem ReqKind.code_eq_iff (x : ReqKind) :
    (x.code = 0b00#2 ↔ x = .none) ∧ (x.code = 0b01#2 ↔ x = .read1) ∧
      (x.code = 0b10#2 ↔ x = .poll) ∧ (x.code = 0b11#2 ↔ x = .read5) := by
  cases x <;> decide

theorem FCode.code_eq_iff (x : FCode) :
    (x.code = 0b00#2 ↔ x = .noFault) ∧ (x.code = 0b01#2 ↔ x = .cntRange) ∧
      (x.code = 0b10#2 ↔ x = .spuriousRsp) ∧ (x.code = 0b11#2 ↔ x = .illegalState) := by
  cases x <;> decide

theorem OutKind.code_eq_iff (x : OutKind) :
    (x.code = 0b00#2 ↔ x = .idle) ∧ (x.code = 0b01#2 ↔ x = .sample) ∧
      (x.code = 0b10#2 ↔ x = .rejected) ∧ (x.code = 0b11#2 ↔ x = .reserved) := by
  cases x <;> decide

/-- The codes from 101 on are the three reserved ones (R86, R91). -/
theorem RejCode.code_eq_iff (x : RejCode) :
    (x.code = 0b000#3 ↔ x = .reserved0) ∧ (x.code = 0b001#3 ↔ x = .shortPacket) ∧
      (x.code = 0b010#3 ↔ x = .badTerminator) ∧ (x.code = 0b011#3 ↔ x = .unexpectedByte) ∧
        (x.code = 0b100#3 ↔ x = .packetTimeout) ∧
          (0b101#3 ≤ x.code ↔ x = .reserved5 ∨ x = .reserved6 ∨ x = .reserved7) := by
  cases x <;> decide

/-- Settles O35. The uncoded outputs are wired straight to their registers; each coded output is the code of its register,
which its table reads back. -/
theorem outputsCarryTheRegisters : Obligations.OutputsCarryTheRegisters := by
  unfold Obligations.OutputsCarryTheRegisters
  intro s
  exact ⟨⟨rfl, rfl, rfl, rfl, rfl, rfl, rfl, rfl⟩, s.st.code_eq_iff, s.rqKind.code_eq_iff, s.fcode.code_eq_iff,
    s.outKind.code_eq_iff, s.rejCode.code_eq_iff⟩

end Sys2Proof.Machine
end

section
/-! PROOF. HUNT (40_hunt.md): the operations of a READ1 response (R102 to R106), and the one use of `en` (R101). -/

namespace Sys2Proof.Machine

open Sys2Proof.Claims

variable {s t : State}

/-! ## The row of a decoded operation (R90) -/

/-- The claims' table of matches and masks is the decoder's. -/
theorem operationMap_eq_opMap : operationMap = opMap.map fun r => (r.pattern, r.mask) := rfl

/-- The operation in a place of the operation map carries the number of that place. -/
theorem row_op_opMap {n : Nat} {r : OpRow} (h : opMap[n]? = some r) (w : DKey) : (r.op w).row = n + 1 := by
  obtain ⟨hn, rfl⟩ := List.getElem?_eq_some_iff.1 h
  have hlen : n < 15 := hn
  interval_cases n <;> rfl

/-- The first row that matches a key is the row of the operation the decoder reads from it. -/
theorem firstRow_of_decode {w : DKey} {i : Instr} (h : decode w = .ok i) : firstRow w = some i.row := by
  unfold decode at h
  split at h <;> cases h
  case h_1 r hr =>
  obtain ⟨hsel, n, hn, rfl, hbefore⟩ := List.find?_eq_some_iff_getElem.1 hr
  have hidx : opMap.findIdx? (fun r => r.selects w) = some n :=
    List.findIdx?_eq_some_iff_getElem.2 ⟨hn, hsel, fun j hj => by simpa using hbefore j hj⟩
  rw [row_op_opMap (List.getElem?_eq_getElem hn), firstRow, operationMap_eq_opMap, List.findIdx?_map]
  exact congrArg (Option.map (· + 1)) hidx

/-- A key selects the row of its decoded operation. -/
theorem selects_of_decode {w : DKey} {i : Instr} (h : decode w = .ok i) : Selects w i.row i :=
  ⟨firstRow_of_decode h, h⟩

/-! ## The operation of a READ1 response, by its count and byte (R92) -/

theorem decode_r1_zero (s : State) (b : Byte) : decode (eventKey s (.r1 0#3 b)) = .ok .huntTimeout :=
  decode_eventKey_r1 ..

theorem decode_r1_startMarker (s : State) : decode (eventKey s (.r1 1#3 0x42#8)) = .ok .huntStart :=
  decode_eventKey_r1 ..

theorem decode_r1_newline (s : State) : decode (eventKey s (.r1 1#3 0x0A#8)) = .ok .huntNewline :=
  decode_eventKey_r1 ..

theorem decode_r1_unexpected (s : State) {b : Byte} (hstart : b ≠ 0x42#8) (hline : b ≠ 0x0A#8) :
    decode (eventKey s (.r1 1#3 b)) = .ok (.huntUnexpected b) := by
  rw [decode_eventKey_r1, if_pos rfl, if_neg (c := b = Config.startMarker) hstart, if_neg (c := b = Config.newline) hline]

theorem decode_r1_overcount (s : State) {k : Count} (b : Byte) (hk : 2#3 ≤ k) :
    decode (eventKey s (.r1 k b)) = .ok (.huntCntfault k b) := by
  have hone : k ≠ 1#3 := by rintro rfl; exact absurd hk (by decide)
  have hzero : k ≠ 0#3 := by rintro rfl; exact absurd hk (by decide)
  rw [decode_eventKey_r1, if_neg hone, if_neg hzero]

/-- Of the one-byte READ1 responses only the newline selects HUNT.NEWLINE. -/
theorem decode_r1_ne_newline (s : State) {b : Byte} (hb : b ≠ 0x0A#8) :
    decode (eventKey s (.r1 1#3 b)) ≠ .ok .huntNewline := by
  by_cases hstart : b = 0x42#8
  · rw [hstart, decode_r1_startMarker]
    simp
  · rw [decode_r1_unexpected s hstart hb]
    simp

/-- Settles O6. A second Idle raises a strobe that is up and writes the kind that stands. -/
theorem huntTimeoutRule : Obligations.HuntTimeoutRule := by
  unfold Obligations.HuntTimeoutRule
  exact fun s b => ⟨selects_of_decode (decode_r1_zero s b), rfl, rfl⟩

/-- Settles O7. HUNT.START decodes from no other event, by `eq_r1_of_decode_huntStart`. -/
theorem huntStartRule : Obligations.HuntStartRule := by
  unfold Obligations.HuntStartRule
  refine fun s => ⟨selects_of_decode (decode_r1_startMarker s), rfl, fun b hb hdec => hb ?_⟩
  injection eq_r1_of_decode_huntStart hdec

/-- Settles O8. The two Idles are one `Emit`; the carriage return is neither the start marker nor the newline. -/
theorem huntNewlineRule : Obligations.HuntNewlineRule := by
  unfold Obligations.HuntNewlineRule
  exact fun s => ⟨selects_of_decode (decode_r1_newline s), rfl, rfl, decode_r1_unexpected s (by decide) (by decide),
    fun _ hb => decode_r1_ne_newline s hb⟩

/-- Settles O9. The reject's data is the byte zero-extended, whose lanes `lane_setWidth_byte` gives. -/
theorem huntUnexpectedRule : Obligations.HuntUnexpectedRule := by
  unfold Obligations.HuntUnexpectedRule
  intro s b hstart hline
  refine ⟨selects_of_decode (decode_r1_unexpected s hstart hline), rfl, rfl, lane_setWidth_byte b 0 (by decide),
    fun i hpos hle => ?_⟩
  exact (lane_setWidth_byte b i (by omega)).trans (if_neg (by omega))

/-- Settles O10. A count of at least 2 is neither 0 nor 1, so no earlier row of HUNT selects the key. -/
theorem huntCntfaultRule : Obligations.HuntCntfaultRule := by
  unfold Obligations.HuntCntfaultRule
  exact fun s k b hk => ⟨selects_of_decode (decode_r1_overcount s b hk), rfl, rfl⟩

/-! ## The one use of `en` (R101) -/

/-- No operation writes `rq_out`: requests are issued and cleared by the edge around it (R73, R74). -/
theorem exec_rqOut {i : Instr} (h : exec i s = .next t) : t.rqOut = s.rqOut := by
  cases i <;> cases h <;> rfl

/-- An edge that raises `rq_out` issues the request that is due. -/
theorem requestDue_of_edge_raises_rqOut (h : edge s = .next t) (hq : s.rqOut = false) (hq' : t.rqOut = true) :
    ∃ k, requestDue s = some k ∧ t = s.clearStrobe.request k := by
  have hne : t.rqOut ≠ s.rqOut := by simp [hq, hq']
  obtain ⟨-, rfl⟩ | ⟨-, -, rfl⟩ | ⟨-, -, ⟨-, hx⟩ | ⟨-, -, -, rfl⟩ | ⟨-, -, hout, -⟩ | ⟨-, -, -, rfl⟩ |
    ⟨-, -, -, i, -, hx⟩ | ⟨-, -, -, -, rfl⟩⟩ := edge_cases h
  · exact absurd hq' (by simp) -- reset lowers `rq_out`
  · exact absurd rfl hne -- faulted
  · exact absurd (exec_rqOut hx) hne -- state 11
  · exact absurd rfl hne -- spurious response
  · exact absurd hout (by simp [hq]) -- accepted response
  · exact absurd rfl hne -- wait
  · exact absurd (exec_rqOut hx) hne -- VALIDATE
  · obtain hidle | hissue := issueRequest_cases s.clearStrobe
    · exact absurd (congrArg State.rqOut hidle) hne
    · exact hissue

/-- A step issues a READ1 only in HUNT, with `en` high. -/
theorem en_of_step_issues_read1 (h : step s = .next t) (hq : s.rqOut = false) (hq' : t.rqOut = true)
    (hk : t.rqKind = .read1) : s.env.pins.en = true ∧ s.st = .hunt := by
  obtain ⟨u, hu, rfl⟩ := step_cases h
  obtain ⟨k, hdue, rfl⟩ := requestDue_of_edge_raises_rqOut hu hq hq'
  obtain ⟨-, hst, hen⟩ | ⟨rfl, -⟩ | ⟨rfl, -⟩ := requestDue_cases hdue
  · exact ⟨hen, hst⟩
  all_goals cases hk

/-- Settles O55. An edge that turns `rq_out` on issued what is due, and a READ1 is due only under `en`; the idle edge of HUNT
is O36's; elsewhere `en` enters no premise of `edge_setEnv`, and an accepted response and its operation do not read it. -/
theorem enableReadOnlyToIssueRead1 : Obligations.EnableReadOnlyToIssueRead1 := by
  unfold Obligations.EnableReadOnlyToIssueRead1
  refine ⟨fun s t => en_of_step_issues_read1, fun s hlive hst hq hv hen => ?idle, fun s v hinv hoff => ?ignored⟩
  case idle =>
    obtain ⟨-, hidle, -⟩ := requestIssueAndHold s hlive hv
    exact hidle hq hst hen
  case ignored =>
    obtain ⟨-, hreq, -⟩ := hinv
    refine sameNextRegs_of_edge (edge_setEnv rfl rfl (fun hst hq => ?_) fun _ _ _ hq _ => ?_)
    · -- in HUNT with nothing outstanding, where `en` is read
      exact absurd hoff (by simp [hst, hq])
    · obtain ⟨ev, hev⟩ := exists_responseEvent hreq hq s.bus
      have hi := decode_fields (eventKey s.clearStrobe ev)
      exact acceptResponse_setEnv (s := s.clearStrobe) hev hev hi hi (fun _ => rfl) (fun _ _ => rfl)

end Sys2Proof.Machine
end

section
/-! PROOF. ACCUMULATE (41_accumulate.md): the operations of a POLL response (R121 to R123) and of a READ5 response (R124, R125). -/

namespace Sys2Proof.Machine

open Sys2Proof.Claims

variable {s : State} {a : Nat}

/-! ## The operation of a POLL response, by its count and the timeout (R57, R89) -/

theorem avok_of_five_le (ha : 5 ≤ a) : avok a = true := decide_eq_true ha

theorem avok_of_lt_five (ha : a < 5) : avok a = false := decide_eq_false (Nat.not_le_of_lt ha)

/-- The timeout fires where it is enabled and this poll reaches it. -/
theorem tmoFires_of_reached {p : Params} {n : Nat} (hon : p.pktTimeout ≠ 0) (hle : p.pktTimeout ≤ n + 1) :
    tmoFires p n = true := by
  rw [tmoFires_eq_decide]
  exact decide_eq_true ⟨hon, hle⟩

/-- The timeout does not fire where it is disabled or this poll stays below it. -/
theorem tmoFires_of_off_or_below {p : Params} {n : Nat} (h : p.pktTimeout = 0 ∨ n + 1 < p.pktTimeout) :
    tmoFires p n = false := by
  rw [tmoFires_eq_decide]
  exact decide_eq_false (by omega)

/-- Readiness is tested before the timeout, which only stands in the operand. -/
theorem decode_poll_ready (s : State) (ha : 5 ≤ a) :
    decode (eventKey s (.poll a)) = .ok (.accPollReady (tmoFires s.params s.tmo)) := by
  rw [decode_eventKey_poll, avok_of_five_le ha, if_pos rfl]

/-- A count below 5 leaves the operation to the timeout. -/
theorem decode_poll_short (s : State) (ha : a < 5) :
    decode (eventKey s (.poll a)) = .ok (if tmoFires s.params s.tmo then .accPollTimeout else .accPollWait) := by
  rw [decode_eventKey_poll, avok_of_lt_five ha, if_neg Bool.false_ne_true]

theorem decode_poll_timeout (ha : a < 5) (hon : s.params.pktTimeout ≠ 0) (hle : s.params.pktTimeout ≤ s.tmo + 1) :
    decode (eventKey s (.poll a)) = .ok .accPollTimeout := by
  rw [decode_poll_short s ha, tmoFires_of_reached hon hle, if_pos rfl]

theorem decode_poll_wait (ha : a < 5) (h : s.params.pktTimeout = 0 ∨ s.tmo + 1 < s.params.pktTimeout) :
    decode (eventKey s (.poll a)) = .ok .accPollWait := by
  rw [decode_poll_short s ha, tmoFires_of_off_or_below h, if_neg Bool.false_ne_true]

/-- Settles O11. The operand records whether the timeout would fire too; readiness wins either way. -/
theorem accPollReadyRule : Obligations.AccPollReadyRule := by
  unfold Obligations.AccPollReadyRule
  exact fun s _ ha => ⟨tmoFires s.params s.tmo, selects_of_decode (decode_poll_ready s ha), rfl⟩

/-- Settles O12. The operation writes `tmoNext`, which is the saturating successor. -/
theorem accPollWaitRule : Obligations.AccPollWaitRule := by
  unfold Obligations.AccPollWaitRule
  exact fun _ _ ha hoff => ⟨selects_of_decode (decode_poll_wait ha hoff), rfl⟩

/-- Settles O13. The effect is the reject presented by `Emit`, then the writes of `armed` and `st`. -/
theorem accPollTimeoutRule : Obligations.AccPollTimeoutRule := by
  unfold Obligations.AccPollTimeoutRule
  exact fun _ _ ha hon hle => ⟨selects_of_decode (decode_poll_timeout ha hon hle), rfl, rfl⟩

/-! ## The operation of a READ5 response, by its count (R92) -/

theorem decode_r5_accept (s : State) {k : Count} (d : Lanes) (hk : k ≤ 5#3) :
    decode (eventKey s (.r5 k d)) = .ok (.accR5Accept k) := by
  have hrange : ¬6#3 ≤ k := by bv_omega
  rw [decode_eventKey_r5, if_neg hrange]

theorem decode_r5_overcount (s : State) {k : Count} (d : Lanes) (hk : 6#3 ≤ k) :
    decode (eventKey s (.r5 k d)) = .ok (.accR5Cntfault k) := by
  rw [decode_eventKey_r5, if_pos hk]

/-- Settles O15. The latched buffer is the response bus masked to the count, whose lanes `lane_maskLanes` gives. -/
theorem accR5AcceptRule : Obligations.AccR5AcceptRule := by
  unfold Obligations.AccR5AcceptRule
  exact fun s k hk => ⟨selects_of_decode (decode_r5_accept s s.bus.data hk), maskLanes k s.bus.data, rfl,
    lane_maskLanes k s.bus.data⟩

/-- Settles O16. The row of an excess count comes before the row that latches. -/
theorem accR5CntfaultRule : Obligations.AccR5CntfaultRule := by
  unfold Obligations.AccR5CntfaultRule
  exact fun s _ d hk => ⟨selects_of_decode (decode_r5_overcount s d hk), rfl, rfl⟩

end Sys2Proof.Machine
end

section
/-! PROOF. VALIDATE (42_validate.md): the operations of the VALIDATE tick that emit an outcome (R141 to R143). -/

namespace Sys2Proof.Machine

open Sys2Proof.Claims

variable {s : State}

/-! ## The operation of the VALIDATE tick, by the count and lane 4 (R92) -/

theorem decode_val_short (hk : s.cnt ≤ 4#3) : decode (eventKey s .val) = .ok (.valShort s.cnt (lane s.buf 4)) := by
  have hfull : s.cnt ≠ 5#3 := by bv_omega
  have hrange : ¬6#3 ≤ s.cnt := by bv_omega
  rw [decode_eventKey_val, if_neg hfull, if_neg hrange]

theorem decode_val_badterm (hk : s.cnt = 5#3) (hend : lane s.buf 4 ≠ 0x45#8) :
    decode (eventKey s .val) = .ok (.valBadterm (lane s.buf 4)) := by
  rw [decode_eventKey_val, if_pos hk, if_neg (c := lane s.buf 4 = Config.endMarker) hend]

theorem decode_val_sample (hk : s.cnt = 5#3) (hend : lane s.buf 4 = 0x45#8) :
    decode (eventKey s .val) = .ok .valSample := by
  rw [decode_eventKey_val, if_pos hk, if_pos (c := lane s.buf 4 = Config.endMarker) hend]

/-- Settles O17. A count of at most 4 is neither a whole packet nor out of range, whatever lane 4 holds. -/
theorem valShortRule : Obligations.ValShortRule := by
  unfold Obligations.ValShortRule
  exact fun _ hk => ⟨selects_of_decode (decode_val_short hk), rfl, rfl⟩

/-- Settles O18. The reject's count of 5 is the operation's constant, which the premise makes the count delivered. -/
theorem valBadtermRule : Obligations.ValBadtermRule := by
  unfold Obligations.ValBadtermRule
  exact fun _ hk hend => ⟨selects_of_decode (decode_val_badterm hk hend), rfl, rfl⟩

/-! ## The fields of a sample (R160 to R162) -/

/-- LE16 as a sum: the shifted high byte and the low byte share no bit, so their bitwise or adds them. -/
theorem toNat_le16 (lo hi : Byte) : (le16 lo hi).toNat = lo.toNat + 256 * hi.toNat := by
  rw [le16_eq_append, BitVec.toNat_append, ← Nat.shiftLeft_add_eq_or_of_lt lo.isLt, Nat.shiftLeft_eq]
  omega

/-- Settles O19. The fields are `packetTs` and `packetRd` of the buffer, each the LE16 of its two lanes. -/
theorem valSampleRule : Obligations.ValSampleRule := by
  unfold Obligations.ValSampleRule
  exact fun s hk hend => ⟨selects_of_decode (decode_val_sample hk hend), packetTs s.buf, packetRd s.buf, rfl,
    toNat_le16 (lane s.buf 0) (lane s.buf 1), toNat_le16 (lane s.buf 2) (lane s.buf 3)⟩

end Sys2Proof.Machine
end

section
/-! PROOF. The field extractor (43_field_extractor.md): the three forms of LE16 (R160). -/

namespace Sys2Proof.Machine

/-- Settles O24. The or of the shifted bytes is the model's definition; the concatenation and the sum are its two laws. -/
theorem le16ThreeForms : Obligations.Le16ThreeForms := by
  unfold Obligations.Le16ThreeForms
  exact fun lo hi => ⟨rfl, le16_eq_append lo hi, toNat_le16 lo hi⟩

end Sys2Proof.Machine
end

section
/-! PROOF. Faults (60_exceptions.md): the edges that raise one (R207 to R209), what they leave (R206), and reset as the only way
out (R214). -/

namespace Sys2Proof.Machine

open Sys2Proof.Claims

variable {s t : State} {c : FCode} {i : Instr}

/-! ## Edges that raise a fault -/

/-- Performing a key is executing the operation decoded from it. -/
theorem perform_of_decode {w : DKey} (h : decode w = .ok i) (s : State) : perform w s = exec i s := by
  simp only [perform, h]

/-- A response whose operation raises a fault leaves the request as it was (R206, C12). -/
theorem acceptResponse_raises {ev : Event} (hev : responseEvent s.rqKind s.bus = some ev)
    (hi : decode (eventKey s ev) = .ok i) (hx : exec i s = .next (s.raiseFault c)) :
    acceptResponse s = .next (s.raiseFault c) := by
  simp only [acceptResponse, hev, perform_of_decode hi, hx, settle, State.raiseFault_fault, if_true]

/-- An edge that raises a fault, as a step. -/
theorem step_of_edge_raises (h : edge s = .next (s.clearStrobe.raiseFault c)) :
    step s = .next { s with fault := true, fcode := c, outValid := false, env := s.nextEnv } :=
  step_of_edge h

/-- A faulted block holds every register but the strobe (R206, R214). -/
theorem step_faulted (hf : s.fault = true) (hr : s.env.pins.rst = false) :
    step s = .next { s with outValid := false, env := s.nextEnv } :=
  step_of_edge (edge_faulted hr hf)

/-- Settles O30. The two clauses are the two cases of the edge on a faulted block. -/
theorem faultHeldUntilReset : Obligations.FaultHeldUntilReset := by
  unfold Obligations.FaultHeldUntilReset
  exact fun s hf => ⟨step_faulted hf, fun hr => ⟨_, step_of_edge (edge_reset hr), rfl⟩⟩

/-- Settles O31. The spurious response is a case of the edge of its own, before any operation is decoded. -/
theorem spuriousResponseFaults : Obligations.SpuriousResponseFaults := by
  unfold Obligations.SpuriousResponseFaults
  exact fun s ⟨hr, hf, hs⟩ hv hq => ⟨step_of_edge_raises (edge_spurious hr hf hs hv hq), rfl⟩

/-- A live block accepts a response whose operation raises a fault, and the step raises it. -/
theorem step_raises_of_response (hlive : Live s) (hq : s.rqOut = true) (hv : s.bus.valid = true) {ev : Event}
    (hev : responseEvent s.rqKind s.bus = some ev) (hi : decode (eventKey s ev) = .ok i)
    (hx : exec i s.clearStrobe = .next (s.clearStrobe.raiseFault c)) :
    step s = .next { s with fault := true, fcode := c, outValid := false, env := s.nextEnv } := by
  obtain ⟨hr, hf, hs⟩ := hlive
  apply step_of_edge_raises
  rw [edge_accept hr hf hs hv hq]
  exact acceptResponse_raises hev ((eventKey_clearStrobe s ev).symm ▸ hi) hx

/-- Settles O33. Each excess count selects its own operation, by the HUNT and ACCUMULATE lemmas of the decoder, and that operation
raises the fault. -/
theorem countRangeFaultsAtTheEdge : Obligations.CountRangeFaultsAtTheEdge := by
  unfold Obligations.CountRangeFaultsAtTheEdge
  refine ⟨rfl, fun s hlive hq hv => ⟨fun hk hcnt => ?read1, fun hk hcnt => ?read5⟩⟩
  case read1 =>
    have hi := decode_r1_overcount s (s.bus.data.extractLsb' 0 8) hcnt
    exact ⟨hi, step_raises_of_response hlive hq hv (by rw [hk]; rfl) hi rfl⟩
  case read5 =>
    have hi := decode_r5_overcount s s.bus.data hcnt
    exact ⟨hi, step_raises_of_response hlive hq hv (by rw [hk]; rfl) hi rfl⟩

/-! ## Fault entry is precise (R206) -/

/-- An operation either raises a fault and does nothing else, or leaves `fault` alone. -/
theorem exec_raises_or_keeps_fault (h : exec i s = .next t) :
    (∃ c, c ≠ .noFault ∧ t = s.raiseFault c) ∨ t.fault = s.fault := by
  cases i <;> cases h
  case huntCntfault | accR5Cntfault | valCntfault | illegalState => exact .inl ⟨_, by decide, rfl⟩
  all_goals exact .inr rfl

/-- An operation that faults an unfaulted block does nothing else. -/
theorem exec_raises (h : exec i s = .next t) (hf : s.fault = false) (hf' : t.fault = true) :
    ∃ c, c ≠ .noFault ∧ t = s.raiseFault c := by
  obtain hraise | hkeep := exec_raises_or_keeps_fault h
  · exact hraise
  · exact absurd (hkeep.symm.trans hf') (by simp [hf])

/-- An edge that faults an unfaulted block does nothing else, but for the strobe that every edge clears. -/
theorem edge_raises (h : edge s = .next t) (hf : s.fault = false) (hf' : t.fault = true) :
    ∃ c, c ≠ .noFault ∧ t = s.clearStrobe.raiseFault c := by
  have hne : t.fault ≠ s.fault := by simp [hf, hf']
  obtain ⟨-, rfl⟩ | ⟨-, hfaulted, -⟩ | ⟨-, -, ⟨-, hx⟩ | ⟨-, -, -, rfl⟩ | ⟨-, -, -, ev, i, u, -, -, hx, rfl⟩ |
    ⟨-, -, -, rfl⟩ | ⟨-, -, -, i, -, hx⟩ | ⟨-, -, -, -, rfl⟩⟩ := edge_cases h
  · exact absurd hf' (by simp) -- reset clears `fault`
  · exact absurd hfaulted (by simp [hf]) -- faulted before
  · exact exec_raises hx hf hf' -- state 11
  · exact ⟨_, by decide, rfl⟩ -- spurious response
  · split at hf' -- accepted response, with or without a fault
    next hu => rw [if_pos hu]; exact exec_raises hx hf hu
    next hu => exact absurd hf' hu
  · exact absurd rfl hne -- wait
  · exact exec_raises hx hf hf' -- VALIDATE
  · obtain hidle | ⟨k, -, hissue⟩ := issueRequest_cases s.clearStrobe
    · exact absurd (congrArg State.fault hidle) hne
    · exact absurd (congrArg State.fault hissue) hne

/-- Settles O34. The edge is `clearStrobe` and `raiseFault`, whose record is the claim's; the outputs are wired to its fields. -/
theorem faultEntryIsPrecise : Obligations.FaultEntryIsPrecise := by
  unfold Obligations.FaultEntryIsPrecise
  refine ⟨fun s t h hf hf' => ?_, fun s => step_faulted⟩
  obtain ⟨u, hu, rfl⟩ := step_cases h
  obtain ⟨c, hc, rfl⟩ := edge_raises hu hf hf'
  exact ⟨c, hc, rfl, rfl, rfl, rfl, rfl⟩

/-! ## The illegal states and counts are not reached (R42, R209) -/

/-- What every step keeps holds all along a run. -/
theorem stateAfter_keeps {P : State → Prop} (hkeep : ∀ s t, P s → step s = .next t → P t) :
    ∀ n s t, P s → stateAfter n s = some t → P t
  | 0, s, t, hs, h => by cases h; exact hs
  | n + 1, s, t, hs, h => by
    unfold stateAfter at h
    split at h
    case h_1 u hu => exact stateAfter_keeps hkeep n u t (hkeep s u hs hu) h
    all_goals cases h

/-- Neither of the two things that raise ILLEGAL_STATE is present: `st` is a legal code and `cnt` a possible count. -/
def State.LegalStCnt (s : State) : Prop := s.st ≠ .illegal ∧ s.cnt ≤ 5#3

/-- The decoder reads ACC.R5_ACCEPT only with a count of at most 5 (R92). -/
theorem le_five_of_decode_accR5Accept {w : DKey} {k : Count} (h : decode w = .ok (.accR5Accept k)) : k ≤ 5#3 := by
  rw [decode_fields] at h
  split_ifs at h <;> cases h
  bv_omega

/-- A decoded operation keeps `st` and `cnt` legal: only ACC.R5_ACCEPT writes `cnt`, and no operation enters state 11. -/
theorem exec_keeps_legalStCnt {w : DKey} (hs : s.LegalStCnt) (hi : decode w = .ok i) (hx : exec i s = .next t) :
    t.LegalStCnt := by
  obtain ⟨hst, hcnt⟩ := hs
  cases i <;> cases hx
  case accR5Accept => exact ⟨by simp, le_five_of_decode_accR5Accept hi⟩
  case huntStart | accPollTimeout | valSample | valBadterm | valShort => exact ⟨by simp, hcnt⟩
  all_goals exact ⟨hst, hcnt⟩

theorem edge_keeps_legalStCnt (hs : s.LegalStCnt) (h : edge s = .next t) : t.LegalStCnt := by
  have hc : s.clearStrobe.LegalStCnt := hs
  obtain ⟨-, rfl⟩ | ⟨-, -, rfl⟩ | ⟨-, -, ⟨hill, -⟩ | ⟨-, -, -, rfl⟩ | ⟨-, -, -, ev, i, u, -, hi, hx, rfl⟩ |
    ⟨-, -, -, rfl⟩ | ⟨-, -, -, i, hi, hx⟩ | ⟨-, -, -, -, rfl⟩⟩ := edge_cases h
  · exact ⟨by simp, by simp⟩ -- reset
  · exact hs -- faulted
  · exact absurd hill hs.1 -- state 11
  · exact hs -- spurious response
  · have hu := exec_keeps_legalStCnt hc hi hx -- accepted response
    split <;> exact hu
  · exact hs -- wait
  · exact exec_keeps_legalStCnt hc hi hx -- VALIDATE
  · obtain hidle | ⟨k, -, hissue⟩ := issueRequest_cases s.clearStrobe
    · rw [hidle]; exact hs
    · rw [hissue]; exact hs

theorem step_keeps_legalStCnt (s t : State) (hs : s.LegalStCnt) (h : step s = .next t) : t.LegalStCnt := by
  obtain ⟨u, hu, rfl⟩ := step_cases h
  have hlegal : u.LegalStCnt := edge_keeps_legalStCnt hs hu
  exact hlegal

/-- The registers of reset are legal. -/
theorem legalStCnt_of_resetClean (h : ResetClean s) : s.LegalStCnt := by
  have hst : s.st = .hunt := congrArg State.st h
  have hcnt : s.cnt = 0#3 := congrArg State.cnt h
  exact ⟨by simp [hst], by simp [hcnt]⟩

/-- Excess counts of VALIDATE select the row of the fault (R92, R209). -/
theorem decode_val_overcount (hk : 6#3 ≤ s.cnt) :
    decode (eventKey s .val) = .ok (.valCntfault s.cnt (lane s.buf 4)) := by
  have hfull : s.cnt ≠ 5#3 := by bv_omega
  rw [decode_eventKey_val, if_neg hfull, if_pos hk]

/-- Settles O32. The two faulting edges perform operations that raise the fault; no run reaches either, since every step keeps
`LegalStCnt`. -/
theorem illegalStateFaultsAtTheEdge : Obligations.IllegalStateFaultsAtTheEdge := by
  unfold Obligations.IllegalStateFaultsAtTheEdge
  refine ⟨rfl, fun s hr hf hs => ?illegal, fun s ⟨hr, hf, _⟩ hs hk hq hv => ?overcount, fun s hreset _ n t h => ?unreached⟩
  case illegal =>
    refine ⟨firstRow_of_decode decode_illegalKey, step_of_edge_raises ?_⟩
    rw [edge_illegal hr hf hs, perform_of_decode decode_illegalKey]
    rfl
  case overcount =>
    have hi := decode_val_overcount hk
    refine ⟨firstRow_of_decode hi, step_of_edge_raises ?_⟩
    rw [edge_validate hr hf hs hv hq, perform_of_decode hi]
    rfl
  case unreached =>
    obtain ⟨hst, hcnt⟩ := stateAfter_keeps step_keeps_legalStCnt n s t (legalStCnt_of_resetClean hreset) h
    exact ⟨hst, fun ⟨_, hexcess⟩ => absurd hexcess (by bv_omega)⟩

end Sys2Proof.Machine
end

section
/-! PROOF. Reset as an edge (R230): one edge with `rst` high is enough, from any state. -/

namespace Sys2Proof.Machine

variable {s : State}

/-- An edge with `rst` resets the registers and moves the environment on, as a step (R230). -/
theorem step_reset (hr : s.env.pins.rst = true) : step s = .next (s.resetRegs.setEnv s.nextEnv) :=
  step_of_edge (edge_reset hr)

/-- `resetRegs` gives the registers of the reset state, and they stay the same in any environment (R41). -/
theorem State.resetRegs_setEnv_sameRegs_reset (s : State) (e : Env) : (s.resetRegs.setEnv e).SameRegs State.reset := rfl

/-- Settles O29. Reset comes before every other case of the edge, so the step needs nothing of the state but `rst`. -/
theorem resetEdge : Obligations.ResetEdge := by
  unfold Obligations.ResetEdge
  exact fun s hr => ⟨_, step_reset hr, s.resetRegs_setEnv_sameRegs_reset s.nextEnv, rfl⟩

end Sys2Proof.Machine
end

section
/-! PROOF. The invariant of the machine (10_state.md, section 5): which updates of the state keep it, and that every step
does. -/

namespace Sys2Proof.Machine

open Sys2Proof.Claims

variable {s t u : State}

/-! ## Updates that keep the invariant

An operation is a chain of the named updates, so each update is shown once to keep the invariant where its operations use it.
-/

/-- Reset needs nothing of the state but its parameters. -/
theorem State.Inv.resetRegs (hp : s.params.Ok) : s.resetRegs.Inv := by
  have hclear : lanesClear 0#3 0#40 := by decide
  exact ⟨⟨by simp, by simp, by simp, hclear, by simp⟩, by simp [State.RequestInv],
    ⟨by simp, by simp, hclear, by simp⟩, by simp [State.FaultInv], hp, Nat.two_pow_pos _, Nat.two_pow_pos _,
    Nat.two_pow_pos _⟩

theorem State.Inv.clearStrobe (h : s.Inv) : s.clearStrobe.Inv := by
  obtain ⟨hctl, hreq, ⟨hkind, hcode, hdata, -⟩, hfault, hwidth⟩ := h
  exact ⟨hctl, hreq, ⟨hkind, hcode, hdata, by simp⟩, hfault, hwidth⟩

theorem State.Inv.clearRequest (h : s.Inv) : s.clearRequest.Inv := by
  obtain ⟨hctl, -, ⟨hkind, hcode, hdata, hend⟩, hfault, hwidth⟩ := h
  refine ⟨hctl, by simp [State.RequestInv], ⟨hkind, hcode, hdata, fun hv => ?_⟩, hfault, hwidth⟩
  obtain ⟨hst, harmed, -, hunfaulted⟩ := hend hv
  exact ⟨hst, harmed, rfl, hunfaulted⟩

/-- Fault entry lowers the strobe, so nothing is asked of the state it freezes. -/
theorem State.Inv.raiseFault {c : FCode} (h : s.Inv) (hc : c ≠ .noFault) : (s.raiseFault c).Inv := by
  obtain ⟨hctl, hreq, ⟨hkind, hcode, hdata, -⟩, -, hwidth⟩ := h
  exact ⟨hctl, hreq, ⟨hkind, hcode, hdata, by simp⟩, by simp [State.FaultInv, hc], hwidth⟩

/-- The request that is due fits its state. -/
theorem State.Inv.request {k : ReqKind} (h : s.Inv) (hv : s.outValid = false) (hdue : requestDue s = some k) :
    (s.request k).Inv := by
  obtain ⟨hctl, -, ⟨hkind, hcode, hdata, -⟩, hfault, hwidth⟩ := h
  refine ⟨hctl, fun _ => ?_, ⟨hkind, hcode, hdata, by simp [hv]⟩, hfault, hwidth⟩
  obtain ⟨rfl, hst, -⟩ | ⟨rfl, hst, harmed⟩ | ⟨rfl, hst, harmed⟩ := requestDue_cases hdue
  · exact .inl ⟨rfl, hst⟩
  · exact .inr (.inr ⟨rfl, hst, harmed⟩)
  · exact .inr (.inl ⟨rfl, hst, harmed⟩)

theorem State.Inv.setTmo {n : Nat} (h : s.Inv) (hn : n < 2 ^ s.params.tmw) : (s.setTmo n).Inv := by
  obtain ⟨hctl, hreq, hport, hfault, hp, hcap, hsmp, -⟩ := h
  exact ⟨hctl, hreq, hport, hfault, hp, hcap, hsmp, hn⟩

theorem State.Inv.setTCap {n : Nat} (h : s.Inv) (hn : n < 2 ^ s.params.htw) : (s.setTCap n).Inv := by
  obtain ⟨hctl, hreq, hport, hfault, hp, -, hsmp, htmo⟩ := h
  exact ⟨hctl, hreq, hport, hfault, hp, hn, hsmp, htmo⟩

theorem State.Inv.latchPacket {k : Count} (h : s.Inv) (hk : k ≤ 5#3) (d : Lanes) : (s.latchPacket k d).Inv := by
  obtain ⟨⟨hst, harmed, -, -, hrej⟩, hreq, hport, hfault, hwidth⟩ := h
  exact ⟨⟨hst, harmed, hk, lanesClear_maskLanes k d, hrej⟩, hreq, hport, hfault, hwidth⟩

theorem State.Inv.arm (h : s.Inv) (hst : s.st = .accumulate) (hq : s.rqOut = false) (hv : s.outValid = false) :
    (s.setArmed true).Inv := by
  obtain ⟨⟨hlegal, -, hcnt, hbuf, hrej⟩, -, ⟨hkind, hcode, hdata, -⟩, hfault, hwidth⟩ := h
  exact ⟨⟨hlegal, fun _ => hst, hcnt, hbuf, hrej⟩, by simp [State.RequestInv, hq],
    ⟨hkind, hcode, hdata, by simp [hv]⟩, hfault, hwidth⟩

theorem State.Inv.disarm (h : s.Inv) (hq : s.rqOut = false) : (s.setArmed false).Inv := by
  obtain ⟨⟨hlegal, -, hcnt, hbuf, hrej⟩, -, ⟨hkind, hcode, hdata, hend⟩, hfault, hwidth⟩ := h
  refine ⟨⟨hlegal, by simp, hcnt, hbuf, hrej⟩, by simp [State.RequestInv, hq], ⟨hkind, hcode, hdata, fun hv => ?_⟩,
    hfault, hwidth⟩
  obtain ⟨hst, -, hreq, hunfaulted⟩ := hend hv
  exact ⟨hst, rfl, hreq, hunfaulted⟩

/-- A state is entered disarmed, with no request and the strobe down. -/
theorem State.Inv.enter {x : CtlState} (h : s.Inv) (hx : x ≠ .illegal) (harmed : s.armed = false) (hq : s.rqOut = false)
    (hv : s.outValid = false) : (s.setSt x).Inv := by
  obtain ⟨⟨-, -, hcnt, hbuf, hrej⟩, -, ⟨hkind, hcode, hdata, -⟩, hfault, hwidth⟩ := h
  exact ⟨⟨hx, by simp [harmed], hcnt, hbuf, hrej⟩, by simp [State.RequestInv, hq],
    ⟨hkind, hcode, hdata, by simp [hv]⟩, hfault, hwidth⟩

/-- The fields of an outcome are in the ranges that the outcome registers keep (R31, R32, R63, R86). -/
def PortOutcome.Legal (o : PortOutcome) (p : Params) : Prop :=
  match o with
  | .idle => True
  | .sample _ _ time => time < 2 ^ p.htw
  | .rejected code k d =>
    (code ≠ .reserved5 ∧ code ≠ .reserved6 ∧ code ≠ .reserved7) ∧ k ≤ 5#3 ∧ lanesClear k d

/-- An outcome is presented at the end of a frame cycle (R61, R107). -/
theorem State.Inv.emit {o : PortOutcome} (h : s.Inv) (ho : o.Legal s.params) (hst : s.st = .hunt)
    (harmed : s.armed = false) (hq : s.rqOut = false) (hf : s.fault = false) : (s.emit o).Inv := by
  obtain ⟨⟨hlegal, hacc, hcnt, hbuf, hrej⟩, hreq, ⟨hkind, hcode, hdata, -⟩, hfault, hp, hcap, hsmp, htmo⟩ := h
  have hend : s.st = .hunt ∧ s.armed = false ∧ s.rqOut = false ∧ s.fault = false := ⟨hst, harmed, hq, hf⟩
  cases o with
  | idle =>
    exact ⟨⟨hlegal, hacc, hcnt, hbuf, hrej⟩, hreq, ⟨by simp [PortOutcome.kind], hcode, hdata, fun _ => hend⟩, hfault,
      hp, hcap, hsmp, htmo⟩
  | sample ts rd time =>
    exact ⟨⟨hlegal, hacc, hcnt, hbuf, hrej⟩, hreq, ⟨by simp [PortOutcome.kind], hcode, hdata, fun _ => hend⟩, hfault,
      hp, hcap, ho, htmo⟩
  | rejected code k d =>
    obtain ⟨hcode', hk, hd⟩ := ho
    exact ⟨⟨hlegal, hacc, hcnt, hbuf, hk⟩, hreq, ⟨by simp [PortOutcome.kind], hcode', hd, fun _ => hend⟩, hfault, hp,
      hcap, hsmp, htmo⟩

/-! ## Every step keeps the invariant -/

/-- The saturating successor fits the width of `tmo` (R27). -/
theorem tmoNext_lt (p : Params) (n : Nat) : tmoNext p n < 2 ^ p.tmw := by
  have hpos : 0 < 2 ^ p.tmw := Nat.two_pow_pos _
  unfold tmoNext
  omega

/-- A byte alone is 0x00 from lane 1 on (R105). -/
theorem lanesClear_setWidth_byte (b : Byte) : lanesClear 1#3 (b.setWidth 40) := by
  intro i hi
  have hpos : 1 ≤ i.val := hi
  rw [lane_setWidth_byte b i i.isLt, if_neg (by omega)]

/-- Only ACCUMULATE is ever armed. -/
theorem State.Inv.not_armed (h : s.Inv) (hst : s.st ≠ .accumulate) : s.armed = false := by
  obtain ⟨⟨-, hacc, -⟩, -⟩ := h
  exact Bool.eq_false_iff.2 fun harmed => hst (hacc harmed)

/-- Accepting a response keeps the invariant: a fault freezes the state; every other operation ends with the request cleared,
and each of its updates keeps the invariant from there. -/
theorem accept_keeps_inv {ev : Event} {i : Instr} (h : s.Inv) (hf : s.fault = false) (hq : s.rqOut = true)
    (hev : responseEvent s.rqKind s.bus = some ev) (hi : decode (eventKey s ev) = .ok i)
    (hx : exec i s.clearStrobe = .next u) : (if u.fault then u else u.clearRequest).Inv := by
  split
  next hu =>
    obtain ⟨c, hc, rfl⟩ := exec_raises hx hf hu
    exact h.clearStrobe.raiseFault hc
  next hu =>
  have hb : s.clearStrobe.clearRequest.Inv := h.clearStrobe.clearRequest
  have ⟨_, hreq, _⟩ := h
  have hread1 (hk : s.rqKind = .read1) : s.st = .hunt ∧ s.armed = false := by
    have hst := st_hunt_of_read1 hreq hq hk
    exact ⟨hst, h.not_armed (by simp [hst])⟩
  have hpoll (hk : s.rqKind = .poll) : s.st = .accumulate := by
    obtain ⟨hk', -⟩ | ⟨-, hst, -⟩ | ⟨hk', -⟩ := hreq hq
    · simp [hk] at hk'
    · exact hst
    · simp [hk] at hk'
  obtain ⟨-, -, -, rfl⟩ | ⟨hk, -, rfl⟩ | ⟨hk, -, -, rfl⟩ | ⟨-, -, -, rfl⟩ | ⟨hk, -, rfl⟩ | ⟨-, -, -, rfl⟩ |
    ⟨-, -, rfl⟩ | ⟨-, -, rfl⟩ | ⟨-, hcnt, rfl⟩ := accepted_cases hev hi hx
  · -- HUNT.START
    exact (((hb.setTCap (Nat.mod_lt _ (Nat.two_pow_pos _))).setTmo (Nat.two_pow_pos _)).disarm rfl).enter
      (x := .accumulate) (by decide) rfl rfl rfl
  · -- HUNT.NEWLINE, HUNT.TIMEOUT
    obtain ⟨hst, harmed⟩ := hread1 hk
    exact hb.emit (o := .idle) trivial hst harmed rfl hf
  · -- HUNT.UNEXPECTED
    obtain ⟨hst, harmed⟩ := hread1 hk
    exact hb.emit (o := .rejected .unexpectedByte 1#3 ((lane s.bus.data 0).setWidth 40))
      ⟨by decide, by decide, lanesClear_setWidth_byte _⟩ hst harmed rfl hf
  · exact absurd rfl hu -- HUNT.CNTFAULT
  · exact hb.arm (hpoll hk) rfl rfl -- ACC.POLL_READY
  · -- ACC.POLL_TIMEOUT
    exact ((hb.disarm rfl).enter (x := .hunt) (by decide) rfl rfl rfl).emit
      (o := .rejected .packetTimeout 0#3 0#40) ⟨by decide, by decide, by decide⟩ rfl rfl rfl hf
  · exact hb.setTmo (tmoNext_lt ..) -- ACC.POLL_WAIT
  · exact absurd rfl hu -- ACC.R5_CNTFAULT
  · -- ACC.R5_ACCEPT
    exact ((hb.latchPacket hcnt s.bus.data).disarm rfl).enter (x := .validate) (by decide) rfl rfl rfl

/-- The VALIDATE step keeps the invariant: its outcomes show the buffer and the captured time, which the invariant bounds. -/
theorem validate_keeps_inv {i : Instr} (h : s.Inv) (hst : s.st = .validate) (hf : s.fault = false) (hq : s.rqOut = false)
    (hi : decode (eventKey s .val) = .ok i) (hx : exec i s.clearStrobe = .next u) : u.Inv := by
  have ⟨⟨_, _, hcnt, hbuf, _⟩, _, _, _, _, hcap, _⟩ := h
  have harmed : s.armed = false := h.not_armed (by simp [hst])
  have hb : (s.clearStrobe.setSt .hunt).Inv := h.clearStrobe.enter (by decide) harmed hq rfl
  obtain ⟨-, rfl⟩ | ⟨hfull, rfl⟩ | ⟨-, rfl⟩ | ⟨-, rfl⟩ := validate_cases hi hx
  · exact hb.emit (o := .sample (packetTs s.buf) (packetRd s.buf) s.tCap) hcap rfl harmed hq hf
  · exact hb.emit (o := .rejected .badTerminator 5#3 s.buf) ⟨by decide, by decide, hfull ▸ hbuf⟩ rfl harmed hq hf
  · exact h.clearStrobe.raiseFault (by decide)
  · exact hb.emit (o := .rejected .shortPacket s.cnt s.buf) ⟨by decide, hcnt, hbuf⟩ rfl harmed hq hf

theorem edge_keeps_inv (h : s.Inv) (he : edge s = .next t) : t.Inv := by
  have ⟨⟨hlegal, _⟩, _, _, _, hp, _⟩ := h
  obtain ⟨-, rfl⟩ | ⟨-, -, rfl⟩ | ⟨-, hf, ⟨hst, -⟩ | ⟨-, -, -, rfl⟩ | ⟨-, -, hq, ev, i, u, hev, hi, hx, rfl⟩ |
    ⟨-, -, -, rfl⟩ | ⟨hst, -, hq, i, hi, hx⟩ | ⟨-, -, -, -, rfl⟩⟩ := edge_cases he
  · exact .resetRegs hp -- reset
  · exact h.clearStrobe -- faulted
  · exact absurd hst hlegal -- state 11
  · exact h.clearStrobe.raiseFault (by decide) -- spurious response
  · exact accept_keeps_inv h hf hq hev hi hx -- accepted response
  · exact h.clearStrobe -- wait
  · exact validate_keeps_inv h hst hf hq hi hx -- VALIDATE
  · obtain hidle | ⟨k, hdue, hissue⟩ := issueRequest_cases s.clearStrobe
    · rw [hidle]; exact h.clearStrobe
    · rw [hissue]; exact h.clearStrobe.request rfl hdue

/-- Settles O38. The step is the edge with the environment moved on, which the invariant does not read; the edge keeps it case
by case (`edge_keeps_inv`). -/
theorem stepKeepsInvariant : Obligations.StepKeepsInvariant := by
  unfold Obligations.StepKeepsInvariant
  intro s t h hstep
  obtain ⟨u, hu, rfl⟩ := step_cases hstep
  have hinv : u.Inv := edge_keeps_inv h hu
  exact hinv

/-! ## The invariant from reset on -/

/-- Settles O39. The reset state is `resetRegs` of itself, and the default parameters are in range. -/
theorem resetMeetsInvariant : Obligations.ResetMeetsInvariant := by
  unfold Obligations.ResetMeetsInvariant
  exact State.Inv.resetRegs (s := State.reset) (by decide)

/-- Clean registers meet the invariant under any parameters in range. -/
theorem inv_of_resetClean (hreset : ResetClean s) (hp : ParamsFixed s) : s.Inv := by
  have hregs : s = s.resetRegs := hreset
  rw [hregs]
  exact .resetRegs hp

/-- Settles O40. The five facts are the invariant's control part, which holds all along a run from reset. -/
theorem reachableStatesMeetControlRules : Obligations.ReachableStatesMeetControlRules := by
  unfold Obligations.ReachableStatesMeetControlRules
  intro s hreset hp n t hrun
  obtain ⟨⟨hlegal, hacc, hcnt, hbuf, hrej⟩, -⟩ := stateAfter_keeps stepKeepsInvariant n s t (inv_of_resetClean hreset hp) hrun
  exact ⟨hlegal, hacc, hcnt, fun _ i hi hle => hbuf ⟨i, hi⟩ hle, hrej⟩

end Sys2Proof.Machine
end

section
/-! PROOF. The decoder and the encoder (30_encoding.md): total, first row first, operands from the key, and inverse to each
other. -/

namespace Sys2Proof.Machine

open Sys2Proof.Claims

variable {s : State} {w : DKey} {i : Instr}

/-- The decoder's case split on a key given by its fields. -/
theorem decode_keyOf (st : BitVec 2) (armed avok tmo : Bool) (cnt : Count) (kb : Byte) :
    decode (keyOf st armed avok tmo cnt kb) = .ok (
      if st = 0b00#2 then
        if cnt = 1#3 then
          if kb = Config.startMarker then .huntStart
          else if kb = Config.newline then .huntNewline else .huntUnexpected kb
        else if cnt = 0#3 then .huntTimeout else .huntCntfault cnt kb
      else if st = 0b01#2 then
        if armed then if 6#3 ≤ cnt then .accR5Cntfault cnt else .accR5Accept cnt
        else if avok then .accPollReady tmo
        else if tmo then .accPollTimeout else .accPollWait
      else if st = 0b10#2 then
        if cnt = 5#3 then if kb = Config.endMarker then .valSample else .valBadterm kb
        else if 6#3 ≤ cnt then .valCntfault cnt kb else .valShort cnt kb
      else .illegalState) := by
  rw [decode_fields]
  simp only [keySt_keyOf, keyArmed_keyOf, keyAvok_keyOf, keyTmo_keyOf, keyCnt_keyOf, keyByte_keyOf]

/-- Settles O1. The key carries the fields of the operation's event, and the operation's ranges exclude the rows before its
own; where the ranges leave a byte or a count open, they are what the decoder's tests ask. -/
theorem decodeEncodeAgree : Obligations.DecodeEncodeAgree := by
  unfold Obligations.DecodeEncodeAgree
  intro i hwf
  cases i
  case huntUnexpected b =>
    have hb : b ≠ Config.startMarker ∧ b ≠ Config.newline := by simpa [Instr.WellFormed, Instr.wf] using hwf
    simp [encode, decode_keyOf, hb]
  case huntCntfault k b =>
    have hk : 2#3 ≤ k := of_decide_eq_true hwf
    have hone : k ≠ 1#3 := by bv_omega
    have hzero : k ≠ 0#3 := by bv_omega
    simp [encode, decode_keyOf, hone, hzero]
  case accR5Cntfault k =>
    have hk : 6#3 ≤ k := of_decide_eq_true hwf
    simp [encode, decode_keyOf, hk]
  case accR5Accept k =>
    have hk : k ≤ 5#3 := of_decide_eq_true hwf
    have hrange : ¬6#3 ≤ k := by bv_omega
    simp [encode, decode_keyOf, hrange]
  case valBadterm b =>
    have hb : b ≠ Config.endMarker := by simpa [Instr.WellFormed, Instr.wf] using hwf
    simp [encode, decode_keyOf, hb]
  case valCntfault k b =>
    have hk : 6#3 ≤ k := of_decide_eq_true hwf
    have hfull : k ≠ 5#3 := by bv_omega
    simp [encode, decode_keyOf, hk, hfull]
  case valShort k b =>
    have hk : k ≤ 4#3 := of_decide_eq_true hwf
    have hfull : k ≠ 5#3 := by bv_omega
    have hrange : ¬6#3 ≤ k := by bv_omega
    simp [encode, decode_keyOf, hfull, hrange]
  -- a constant key, or one in which the decoder passes the operand through
  case huntStart | huntNewline | huntTimeout | accPollReady | accPollTimeout | accPollWait | valSample | illegalState =>
    exact decode_keyOf ..

/-- The operands the decoder reads are fields of the key (R88). -/
theorem operandsAreFields_of_decode (h : decode w = .ok i) : OperandsAreFields i w := by
  rw [decode_fields] at h
  split_ifs at h <;> cases h
  all_goals simp [OperandsAreFields, keyCnt, keyByte, keyTmo]

/-- The decoder reads only well-formed operations: the tests before a row's leave the operands the row's range (R92). -/
theorem wellFormed_of_decode (h : decode w = .ok i) : i.WellFormed := by
  rw [decode_fields] at h
  split_ifs at h <;> cases h
  all_goals simp [Instr.WellFormed, Instr.wf, *]
  all_goals bv_omega

/-- Settles O2. `decode_fields` answers for every key; the row, the operands and the range of its answer are a lemma each. -/
theorem decodeTakesFirstRowAndIsTotal : Obligations.DecodeTakesFirstRowAndIsTotal := by
  unfold Obligations.DecodeTakesFirstRowAndIsTotal
  intro w
  have h := decode_fields w
  exact ⟨_, h, firstRow_of_decode h, operandsAreFields_of_decode h, wellFormed_of_decode h⟩

/-- Settles O3. Eight literal keys, each decoded by running the operation map on it. -/
theorem vectorKeysDecode : Obligations.VectorKeysDecode := by
  unfold Obligations.VectorKeysDecode
  decide

/-- Settles O5. Each kind of request that the invariant lets be outstanding belongs to one state and one value of `armed`,
which are the constants of its event's key (`eventKeyFields`). -/
theorem eventKeyMirrorsState : Obligations.EventKeyMirrorsState := by
  unfold Obligations.EventKeyMirrorsState
  intro s hinv hq
  have ⟨_, hreq, _⟩ := hinv
  obtain ⟨hr1, hpoll, hr5, -⟩ := eventKeyFields s
  obtain ⟨hk, hst⟩ | ⟨hk, hst, harmed⟩ | ⟨hk, hst, harmed⟩ := hreq hq
  · obtain ⟨hkeySt, hkeyArmed, -⟩ := hr1 s.bus.cnt (lane s.bus.data 0)
    rw [hk, hst, hinv.not_armed (by simp [hst])]
    exact ⟨_, rfl, hkeySt, hkeyArmed⟩
  · obtain ⟨hkeySt, hkeyArmed, -⟩ := hpoll s.bus.avail
    rw [hk, hst, harmed]
    exact ⟨_, rfl, hkeySt, hkeyArmed⟩
  · obtain ⟨hkeySt, hkeyArmed, -⟩ := hr5 s.bus.cnt s.bus.data
    rw [hk, hst, harmed]
    exact ⟨_, rfl, hkeySt, hkeyArmed⟩

/-! ## The operations of illegal states and counts (R209) -/

/-- Settles O20. A count of 6 or 7 is not that of a whole packet and precedes the short packet's row. -/
theorem valCntfaultRule : Obligations.ValCntfaultRule := by
  unfold Obligations.ValCntfaultRule
  exact fun _ hk => ⟨selects_of_decode (decode_val_overcount hk), rfl, rfl⟩

/-- Settles O21. The key of state 11 is one literal, which the last row selects. -/
theorem illegalStateRule : Obligations.IllegalStateRule := by
  unfold Obligations.IllegalStateRule
  exact fun _ => ⟨selects_of_decode decode_illegalKey, rfl, rfl⟩

end Sys2Proof.Machine
end

section
/-! PROOF. The operations as a whole: every one completes, and which of them write each register (10_state.md, sections 2, 3).
-/

namespace Sys2Proof.Machine

open Sys2Proof.Claims

variable {s t : State} {i : Instr}

/-- Settles O22. Every operation's meaning is a chain of updates, which answers. -/
theorem everyOperationCompletes : Obligations.EveryOperationCompletes := by
  unfold Obligations.EveryOperationCompletes
  intro i s
  cases i <;> exact ⟨_, rfl⟩

/-! ## The frame of the operations, one register group at a time -/

theorem exec_keeps_request_params_env (h : exec i s = .next t) :
    t.rqOut = s.rqOut ∧ t.rqKind = s.rqKind ∧ t.params = s.params ∧ t.env = s.env := by
  cases i <;> cases h <;> exact ⟨rfl, rfl, rfl, rfl⟩

theorem exec_tCap (h : exec i s = .next t) (hi : i ≠ .huntStart) : t.tCap = s.tCap := by
  cases i <;> cases h
  case huntStart => exact absurd rfl hi
  all_goals rfl

theorem exec_tmo (h : exec i s = .next t) (hstart : i ≠ .huntStart) (hwait : i ≠ .accPollWait) : t.tmo = s.tmo := by
  cases i <;> cases h
  case huntStart => exact absurd rfl hstart
  case accPollWait => exact absurd rfl hwait
  all_goals rfl

theorem exec_packet (h : exec i s = .next t) (hi : ∀ k, i ≠ .accR5Accept k) : t.cnt = s.cnt ∧ t.buf = s.buf := by
  cases i <;> cases h
  case accR5Accept => exact absurd rfl (hi _)
  all_goals exact ⟨rfl, rfl⟩

theorem exec_armed (h : exec i s = .next t) (hstart : i ≠ .huntStart) (hready : ∀ m, i ≠ .accPollReady m)
    (htimeout : i ≠ .accPollTimeout) (haccept : ∀ k, i ≠ .accR5Accept k) : t.armed = s.armed := by
  cases i <;> cases h
  case huntStart => exact absurd rfl hstart
  case accPollReady => exact absurd rfl (hready _)
  case accPollTimeout => exact absurd rfl htimeout
  case accR5Accept => exact absurd rfl (haccept _)
  all_goals rfl

theorem exec_sample (h : exec i s = .next t) (hi : i ≠ .valSample) :
    t.smpTs = s.smpTs ∧ t.smpRd = s.smpRd ∧ t.smpTime = s.smpTime := by
  cases i <;> cases h
  case valSample => exact absurd rfl hi
  all_goals exact ⟨rfl, rfl, rfl⟩

theorem exec_reject (h : exec i s = .next t) (hbyte : ∀ b, i ≠ .huntUnexpected b) (htimeout : i ≠ .accPollTimeout)
    (hterm : ∀ b, i ≠ .valBadterm b) (hshort : ∀ k b, i ≠ .valShort k b) :
    t.rejCode = s.rejCode ∧ t.rejCnt = s.rejCnt ∧ t.rejData = s.rejData := by
  cases i <;> cases h
  case huntUnexpected => exact absurd rfl (hbyte _)
  case accPollTimeout => exact absurd rfl htimeout
  case valBadterm => exact absurd rfl (hterm _)
  case valShort => exact absurd rfl (hshort _ _)
  all_goals exact ⟨rfl, rfl, rfl⟩

theorem exec_fault (h : exec i s = .next t) (hhunt : ∀ k b, i ≠ .huntCntfault k b) (hread : ∀ k, i ≠ .accR5Cntfault k)
    (hval : ∀ k b, i ≠ .valCntfault k b) (hill : i ≠ .illegalState) : t.fault = s.fault ∧ t.fcode = s.fcode := by
  cases i <;> cases h
  case huntCntfault => exact absurd rfl (hhunt _ _)
  case accR5Cntfault => exact absurd rfl (hread _)
  case valCntfault => exact absurd rfl (hval _ _)
  case illegalState => exact absurd rfl hill
  all_goals exact ⟨rfl, rfl⟩

theorem exec_st (h : exec i s = .next t) (hstart : i ≠ .huntStart) (htimeout : i ≠ .accPollTimeout)
    (haccept : ∀ k, i ≠ .accR5Accept k) (hsample : i ≠ .valSample) (hterm : ∀ b, i ≠ .valBadterm b)
    (hshort : ∀ k b, i ≠ .valShort k b) : t.st = s.st := by
  cases i <;> cases h
  case huntStart => exact absurd rfl hstart
  case accPollTimeout => exact absurd rfl htimeout
  case accR5Accept => exact absurd rfl (haccept _)
  case valSample => exact absurd rfl hsample
  case valBadterm => exact absurd rfl (hterm _)
  case valShort => exact absurd rfl (hshort _ _)
  all_goals rfl

/-- The operations that emit an outcome are the only ones to raise the strobe. -/
theorem emits_of_exec_raises_outValid (h : exec i s = .next t) (ht : t.outValid = true) (hs : s.outValid = false) :
    i = .huntNewline ∨ (∃ b, i = .huntUnexpected b) ∨ i = .huntTimeout ∨ i = .accPollTimeout ∨ i = .valSample ∨
      (∃ b, i = .valBadterm b) ∨ ∃ k b, i = .valShort k b := by
  cases i <;> cases h
  case huntStart | accPollReady | accPollWait | accR5Accept => exact absurd (hs.symm.trans ht) Bool.false_ne_true
  case huntCntfault | accR5Cntfault | valCntfault | illegalState => exact absurd ht Bool.false_ne_true
  all_goals simp

/-- The operations that neither emit nor fault leave the strobe and its kind. -/
theorem exec_silent (h : exec i s = .next t)
    (hi : i = .huntStart ∨ (∃ m, i = .accPollReady m) ∨ i = .accPollWait ∨ ∃ k, i = .accR5Accept k) :
    t.outValid = s.outValid ∧ t.outKind = s.outKind := by
  obtain rfl | ⟨m, rfl⟩ | rfl | ⟨k, rfl⟩ := hi <;> cases h <;> exact ⟨rfl, rfl⟩

/-- The operations that fault lower the strobe and leave its kind (R206). -/
theorem exec_faults (h : exec i s = .next t)
    (hi : (∃ k b, i = .huntCntfault k b) ∨ (∃ k, i = .accR5Cntfault k) ∨ (∃ k b, i = .valCntfault k b) ∨
      i = .illegalState) : t.outValid = false ∧ t.outKind = s.outKind := by
  obtain ⟨k, b, rfl⟩ | ⟨k, rfl⟩ | ⟨k, b, rfl⟩ | rfl := hi <;> cases h <;> exact ⟨rfl, rfl⟩

/-- Settles O23. Each clause is the frame of one register group. -/
theorem operationsWriteOnlyTheirRegisters : Obligations.OperationsWriteOnlyTheirRegisters := by
  unfold Obligations.OperationsWriteOnlyTheirRegisters
  intro i s t h
  refine ⟨exec_keeps_request_params_env h, exec_tCap h, exec_tmo h, fun haccept => ?packet, exec_armed h, exec_sample h,
    exec_reject h, exec_fault h, exec_st h, emits_of_exec_raises_outValid h, exec_silent h, exec_faults h⟩
  obtain ⟨hcnt, hbuf⟩ := exec_packet h haccept
  exact ⟨hcnt, fun j _ => by rw [hbuf]⟩

end Sys2Proof.Machine
end

section
/-! PROOF. Sequences of operations: the polls that count up to the packet timeout (41_accumulate.md), and a whole frame cycle.
-/

namespace Sys2Proof.Machine

open Sys2Proof.Claims

variable {s : State}

/-! ## LE16 and the fields of a packet (R160 to R163) -/

/-- Settles O25. The value is a concatenation of the two bytes, so its halves give them back; the bound is that of a 16-bit
value. -/
theorem le16IsBijection : Obligations.Le16IsBijection := by
  unfold Obligations.Le16IsBijection
  refine ⟨fun lo hi => ⟨toNat_le16 lo hi, ?bound⟩, fun v => ⟨loByte v, hiByte v, ?value, fun lo hi h => ?unique⟩⟩
  case bound => omega
  case value =>
    rw [le16_eq_append]
    exact (BitVec.extractLsb'_append_extractLsb'_eq_extractLsb' rfl).trans BitVec.extractLsb'_eq_self
  case unique =>
    rw [← h, le16_eq_append]
    exact ⟨BitVec.extractLsb'_append_eq_right.symm, BitVec.extractLsb'_append_eq_left.symm⟩

/-- Two neighbouring lanes as LE16 are 16 bits in a row. -/
theorem le16_lane_lane (d : Lanes) (i : Nat) : le16 (lane d i) (lane d (i + 1)) = d.extractLsb' (8 * i) 16 := by
  rw [le16_eq_append]
  exact BitVec.extractLsb'_append_extractLsb'_eq_extractLsb' rfl

/-- A mask of all five lanes keeps the fields of the packet. -/
theorem packet_maskLanes_five (d : Lanes) :
    packetTs (maskLanes 5#3 d) = d.extractLsb' 0 16 ∧ packetRd (maskLanes 5#3 d) = d.extractLsb' 16 16 := by
  have hlane (i : Nat) (hi : i < 5) : lane (maskLanes 5#3 d) i = lane d i :=
    (lane_maskLanes 5#3 d i hi).trans (if_pos hi)
  constructor
  · rw [packetTs, hlane 0 (by decide), hlane 1 (by decide)]
    exact le16_lane_lane d 0
  · rw [packetRd, hlane 2 (by decide), hlane 3 (by decide)]
    exact le16_lane_lane d 2

/-! ## Polls below 5 (R122) -/

/-- Polls below 5 that do not reach the packet timeout change nothing but the poll count and the environment, and the count is
exact where it fits `tmo`. -/
theorem performPolls_of_short {polls : List (Nat × Env)} (hshort : ∀ p ∈ polls, p.1 < 5)
    (hoff : s.params.pktTimeout = 0 ∨ s.tmo + polls.length < s.params.pktTimeout) :
    ∃ n e, performPolls polls s = .next ((s.setTmo n).setEnv e) ∧
      (s.tmo + polls.length ≤ 2 ^ s.params.tmw - 1 → n = s.tmo + polls.length) := by
  induction polls generalizing s with
  | nil => exact ⟨s.tmo, s.env, rfl, fun _ => rfl⟩
  | cons poll rest ih =>
    obtain ⟨a, e⟩ := poll
    obtain ⟨ha, hshort⟩ := List.forall_mem_cons.1 hshort
    simp only [List.length_cons] at hoff ⊢
    have hwait : perform (eventKey s (.poll a)) (s.setEnv e) =
        .next ((s.setEnv e).setTmo (tmoNext s.params s.tmo)) :=
      perform_of_decode (decode_poll_wait ha (by omega)) _
    have hnext : tmoNext s.params s.tmo = min (s.tmo + 1) (2 ^ s.params.tmw - 1) := rfl
    obtain ⟨n, e', hrest, hcount⟩ := ih (s := (s.setEnv e).setTmo (tmoNext s.params s.tmo)) hshort
      (by simp only [State.setTmo_params, State.setTmo_tmo, State.setEnv_params]; omega)
    refine ⟨n, e', ?_, fun hfits => ?_⟩
    · simp only [performPolls, hwait]
      exact hrest
    · simp only [State.setTmo_params, State.setTmo_tmo, State.setEnv_params] at hcount
      omega

/-- Settles O14. The polls before count up to their number, which the timeout's width holds, and the next poll compares its
number with the timeout. -/
theorem packetTimeoutFiresOnNthPoll : Obligations.PacketTimeoutFiresOnNthPoll := by
  unfold Obligations.PacketTimeoutFiresOnNthPoll
  intro s polls a ⟨_, _, _, hwidth⟩ hon hzero hshort hlen ha
  obtain ⟨n, e, hrun, hcount⟩ := performPolls_of_short (s := s) hshort (.inr (by omega))
  obtain rfl : n = polls.length := by omega
  refine ⟨_, hrun, rfl, rfl, rfl, ?_⟩
  split
  next hlast => exact decode_poll_timeout ha hon hlast.ge
  next hearlier => exact decode_poll_wait ha (.inr (show polls.length + 1 < s.params.pktTimeout by omega))

/-- Settles O26. The polls leave the captured time and the silent strobe alone, ACC.R5_ACCEPT latches all five lanes, and
VALIDATE emits their fields. -/
theorem frameCycleEmitsItsSample : Obligations.FrameCycleEmitsItsSample := by
  unfold Obligations.FrameCycleEmitsItsSample
  intro s s1 polls hstart hshort hoff
  cases hstart
  obtain ⟨n, e, hrun, -⟩ := performPolls_of_short (s := (((s.setTCap s.hostTime).setTmo 0).setArmed false).setSt .accumulate)
    hshort (by simpa using hoff)
  refine ⟨_, hrun, fun e2 e3 e4 a ha => ⟨_, _, decode_poll_ready _ ha, rfl, fun hend => ⟨_, rfl, rfl, rfl, ?_, ?_⟩⟩⟩
  · exact decode_val_sample rfl ((lane_maskLanes 5#3 _ 4 (by decide)).trans hend)
  · exact ⟨_, _, _, rfl, rfl, rfl, packet_maskLanes_five _⟩

end Sys2Proof.Machine
end

section
/-! PROOF. The step around an operation (20_memory.md, section 6): which operation a step performs, what it adds to it, and
what the VALIDATE step presents. -/

namespace Sys2Proof.Machine

open Sys2Proof.Claims

variable {s t u : State} {i : Instr} {ev : Event}

/-! ## The step that performs a given operation -/

/-- A live block that accepts a response performs its operation and clears the request unless that raised a fault (R74). -/
theorem step_accept (hlive : Live s) (hq : s.rqOut = true) (hv : s.bus.valid = true)
    (hev : responseEvent s.rqKind s.bus = some ev) (hi : decode (eventKey s ev) = .ok i)
    (hx : exec i s.clearStrobe = .next u) :
    step s = .next ((if u.fault then u else u.clearRequest).setEnv s.nextEnv) := by
  obtain ⟨hr, hf, hs⟩ := hlive
  apply step_of_edge
  have hi' : decode (eventKey s.clearStrobe ev) = .ok i := by rw [eventKey_clearStrobe, hi]
  have hev' : responseEvent s.clearStrobe.rqKind s.clearStrobe.bus = some ev := hev
  rw [edge_accept hr hf hs hv hq]
  simp only [acceptResponse, hev', perform_of_decode hi', hx, settle]

/-- An unfaulted VALIDATE with nothing on its ports performs the operation its registers select (R140). -/
theorem step_validate (hlive : Live s) (hst : s.st = .validate) (hq : s.rqOut = false) (hv : s.bus.valid = false)
    (hi : decode (eventKey s .val) = .ok i) (hx : exec i s.clearStrobe = .next u) :
    step s = .next (u.setEnv s.nextEnv) := by
  obtain ⟨hr, hf, -⟩ := hlive
  apply step_of_edge
  rw [edge_validate hr hf hst hv hq, perform_of_decode hi, hx]

/-- Settles O27. An operation always answers, so each clause is the step that performs it. -/
theorem stepRunsDecodedOperation : Obligations.StepRunsDecodedOperation := by
  unfold Obligations.StepRunsDecodedOperation
  have hclear (s : State) : ({ s with outValid := false } : State) = s.clearStrobe := rfl
  refine ⟨fun s ev i hlive hq hv hev hi => ?accept, fun s i hlive hst hq hv hi => ?validate,
    fun s i hr hf hst hi => ?illegal⟩
  all_goals
    obtain ⟨u, hx⟩ := everyOperationCompletes i s.clearStrobe
    rw [hclear, hx]
  case accept =>
    rw [step_accept hlive hq hv hev hi hx, afterAccept]
    split <;> rfl
  case validate => exact step_validate hlive hst hq hv hi hx
  case illegal =>
    apply step_of_edge
    rw [edge_illegal hr hf hst, perform_of_decode hi, hx]

/-! ## What the VALIDATE step presents -/

@[simp] theorem presented_setSt (s : State) (x : CtlState) : (s.setSt x).presented = s.presented := rfl
@[simp] theorem presented_setEnv (s : State) (e : Env) : (s.setEnv e).presented = s.presented := rfl

/-- The outcome of VALIDATE: the length check, then the end marker (R145). -/
def State.valOutcome (s : State) : PortOutcome :=
  if s.cnt < 5#3 then .rejected .shortPacket s.cnt s.buf
  else if lane s.buf 4 = Config.endMarker then .sample (packetTs s.buf) (packetRd s.buf) s.tCap
  else .rejected .badTerminator 5#3 s.buf

/-- A count of at most 5 makes VALIDATE emit its outcome and return to HUNT (R141 to R143). -/
theorem step_val (hlive : Live s) (hst : s.st = .validate) (hcnt : s.cnt ≤ 5#3) (hq : s.rqOut = false)
    (hv : s.bus.valid = false) : step s = .next (((s.clearStrobe.emit s.valOutcome).setSt .hunt).setEnv s.nextEnv) := by
  have hop : ∃ i, decode (eventKey s .val) = .ok i ∧
      exec i s.clearStrobe = .next ((s.clearStrobe.emit s.valOutcome).setSt .hunt) := by
    unfold State.valOutcome
    split_ifs with hshort hend
    · exact ⟨_, decode_val_short (by bv_omega), rfl⟩
    · exact ⟨_, decode_val_sample (by bv_omega) hend, rfl⟩
    · exact ⟨_, decode_val_badterm (by bv_omega) hend, rfl⟩
  obtain ⟨i, hi, hx⟩ := hop
  exact step_validate hlive hst hq hv hi hx

/-- Settles O37. The chain of checks is `valOutcome`, which the step emits on its way to HUNT. -/
theorem validateEndsTheFrameCycle : Obligations.ValidateEndsTheFrameCycle := by
  unfold Obligations.ValidateEndsTheFrameCycle
  intro s hlive hst hcnt hq hv
  have ⟨_, hf, _⟩ := hlive
  refine ⟨_, step_val hlive hst hcnt hq hv, rfl, by simpa using hf, ?_⟩
  rw [presented_setEnv, presented_setSt, presented_emit]
  rfl

/-! ## What a step can do to the registers an operation writes -/

/-- The event of this edge, if any: an accepted response or the VALIDATE tick (R74, R84). -/
def State.Occurs (s : State) (ev : Event) : Prop :=
  (s.rqOut = true ∧ s.bus.valid = true ∧ responseEvent s.rqKind s.bus = some ev) ∨
    (s.st = .validate ∧ s.rqOut = false ∧ s.bus.valid = false ∧ ev = .val)

/-- Without `rst` an edge performs the operation of its event and touches no register else but `rq_out`, or it has no event
and leaves every register but the strobe, the fault and the request. -/
theorem edge_performs_or_holds (hr : s.env.pins.rst = false) (h : edge s = .next t) :
    (∃ ev i u, s.Occurs ev ∧ decode (eventKey s ev) = .ok i ∧ exec i s.clearStrobe = .next u ∧
      t = { u with rqOut := t.rqOut }) ∨
    t = { s with outValid := false, fault := t.fault, fcode := t.fcode, rqOut := t.rqOut, rqKind := t.rqKind } := by
  obtain ⟨hr', -⟩ | ⟨-, -, rfl⟩ | ⟨-, -, ⟨-, hx⟩ | ⟨-, -, -, rfl⟩ | ⟨-, hv, hq, ev, i, u, hev, hi, hx, rfl⟩ |
    ⟨-, -, -, rfl⟩ | ⟨hst, hv, hq, i, hi, hx⟩ | ⟨-, -, -, -, rfl⟩⟩ := edge_cases h
  · exact absurd hr' (by simp [hr]) -- reset
  · exact .inr rfl -- faulted
  · cases hx; exact .inr rfl -- state 11
  · exact .inr rfl -- spurious response
  · refine .inl ⟨ev, i, u, .inl ⟨hq, hv, hev⟩, hi, hx, ?_⟩ -- accepted response
    split <;> rfl
  · exact .inr rfl -- wait
  · exact .inl ⟨.val, i, t, .inr ⟨hst, hq, hv, rfl⟩, hi, hx, rfl⟩ -- VALIDATE
  · obtain hidle | ⟨k, -, hissue⟩ := issueRequest_cases s.clearStrobe
    · rw [hidle]; exact .inr rfl
    · rw [hissue]; exact .inr rfl

/-- `edge_performs_or_holds` as a step, which moves the environment on. -/
theorem step_performs_or_holds (hr : s.env.pins.rst = false) (h : step s = .next t) :
    (∃ ev i u, s.Occurs ev ∧ decode (eventKey s ev) = .ok i ∧ exec i s.clearStrobe = .next u ∧
      t = { u with rqOut := t.rqOut, env := t.env }) ∨
    t = { s with outValid := false, fault := t.fault, fcode := t.fcode, rqOut := t.rqOut, rqKind := t.rqKind,
                 env := t.env } := by
  obtain ⟨v, hv, rfl⟩ := step_cases h
  obtain ⟨ev, i, u, hoc, hi, hx, ht⟩ | ht := edge_performs_or_holds hr hv
  · exact .inl ⟨ev, i, u, hoc, hi, hx, congrArg (State.setEnv · s.nextEnv) ht⟩
  · exact .inr (congrArg (State.setEnv · s.nextEnv) ht)

/-- Settles O43. Reset and the edge keep the parameters of the state, and no operation writes them. -/
theorem stepKeepsParameters : Obligations.StepKeepsParameters := by
  unfold Obligations.StepKeepsParameters
  intro s t h
  cases hr : s.env.pins.rst with
  | true =>
    rw [step_reset hr] at h
    cases h
    rfl
  | false =>
    obtain ⟨_, i, u, -, -, hx, ht⟩ | ht := step_performs_or_holds hr h
    · obtain ⟨-, -, hparams, -⟩ := exec_keeps_request_params_env hx
      rw [ht]
      exact hparams
    · rw [ht]

/-- VAL.SAMPLE is decoded from the VALIDATE tick only. -/
theorem eq_val_of_decode_valSample (h : decode (eventKey s ev) = .ok .valSample) : ev = .val := by
  cases ev with
  | val => rfl
  | r1 k b => rw [decode_eventKey_r1] at h; split_ifs at h <;> cases h
  | poll a => rw [decode_eventKey_poll] at h; split_ifs at h <;> cases h
  | r5 k d => rw [decode_eventKey_r5] at h; split_ifs at h <;> cases h

/-- A response is never the VALIDATE tick. -/
theorem responseEvent_ne_val (k : ReqKind) (b : Bus) : responseEvent k b ≠ some .val := by
  cases k <;> simp [responseEvent]

theorem State.Occurs.st_validate (h : s.Occurs .val) : s.st = .validate := by
  obtain ⟨-, -, hev⟩ | ⟨hst, -⟩ := h
  · exact absurd hev (responseEvent_ne_val _ _)
  · exact hst

/-- The start marker's event occurs only as the response of a READ1. -/
theorem State.Occurs.read1_start (h : s.Occurs (.r1 1#3 Config.startMarker)) :
    s.rqOut = true ∧ s.rqKind = .read1 ∧ s.bus.valid = true ∧ s.bus.cnt = 1#3 ∧ s.bus.data.extractLsb' 0 8 = 0x42#8 := by
  obtain ⟨hq, hv, hev⟩ | ⟨-, -, -, hev⟩ := h
  · obtain ⟨hk, hc, hb⟩ := responseEvent_eq_start_iff.1 hev
    exact ⟨hq, hk, hv, hc, hb⟩
  · cases hev

/-- Settles O52. HUNT.START alone writes `t_cap` and VAL.SAMPLE alone writes `smp_time`, and each is decoded from one event.
-/
theorem hostTimeWritten : Obligations.HostTimeWritten := by
  unfold Obligations.HostTimeWritten
  intro s t h hr
  obtain ⟨ev, i, u, hoc, hi, hx, ht⟩ | ht := step_performs_or_holds hr h
  case inr => exact ⟨fun hne => absurd (congrArg State.tCap ht) hne, fun hne => absurd (congrArg State.smpTime ht) hne⟩
  rw [ht]
  refine ⟨fun hne => ?start, fun hne => ?sample⟩
  case start =>
    obtain rfl : i = .huntStart := by
      by_contra hop
      have hkeep := exec_tCap hx hop
      exact hne hkeep
    cases hx
    rw [eq_r1_of_decode_huntStart hi] at hoc
    obtain ⟨hq, hk, hv, hc, hb⟩ := hoc.read1_start
    exact ⟨hq, hk, hv, hc, hb, rfl⟩
  case sample =>
    obtain rfl : i = .valSample := by
      by_contra hop
      obtain ⟨-, -, hkeep⟩ := exec_sample hx hop
      exact hne hkeep
    cases hx
    rw [eq_val_of_decode_valSample hi] at hoc
    exact ⟨hoc.st_validate, rfl⟩

/-- An operation that writes a reject field presents the reject. -/
theorem exec_keeps_or_presents_reject (h : exec i s = .next t) :
    (t.rejCode = s.rejCode ∧ t.rejCnt = s.rejCnt ∧ t.rejData = s.rejData) ∨
      t.presented = some (.rejected t.rejCode t.rejCnt t.rejData) := by
  cases i <;> cases h
  case huntUnexpected | accPollTimeout | valBadterm | valShort => exact .inr rfl
  all_goals exact .inl ⟨rfl, rfl, rfl⟩

/-- Settles O53. VAL.SAMPLE alone writes the sample fields; an operation that writes the reject fields presents them. -/
theorem outcomeFieldsHeld : Obligations.OutcomeFieldsHeld := by
  unfold Obligations.OutcomeFieldsHeld
  intro s t h hr
  obtain ⟨ev, i, u, hoc, hi, hx, ht⟩ | ht := step_performs_or_holds hr h
  all_goals rw [ht]
  case inr => exact ⟨fun hne => absurd ⟨rfl, rfl, rfl⟩ hne, fun hne => absurd ⟨rfl, rfl, rfl⟩ hne⟩
  refine ⟨fun hne => ?sample, fun hne => (exec_keeps_or_presents_reject hx).resolve_left hne⟩
  obtain rfl : i = .valSample := by
    by_contra hop
    have hkeep := exec_sample hx hop
    exact hne hkeep
  cases hx
  obtain rfl := eq_val_of_decode_valSample hi
  exact ⟨hi, hoc.st_validate, rfl⟩

end Sys2Proof.Machine
end

section
/-! PROOF. What reaches no register: the sinks (20_memory.md, section 3) and the bus fields a response does not carry (R59,
R91). -/

namespace Sys2Proof.Machine

open Sys2Proof.Claims

variable {s : State} {e : Env}

/-! ## The fields a response carries -/

/-- Two buses agree on the fields that a response to a request of kind `k` carries (R57, R59). -/
def ReqKind.CarriesSame (k : ReqKind) (a b : Bus) : Prop :=
  (k ≠ .poll → a.cnt = b.cnt ∧ ∀ i, i < 5 → i < a.cnt.toNat → lane a.data i = lane b.data i) ∧
    (k = .poll → (5 ≤ a.avail ↔ 5 ≤ b.avail))

/-- Buses that agree on the carried fields make events with one decode key. -/
theorem eventKey_eq_of_carriesSame {k : ReqKind} {a b : Bus} {ev : Event} (h : k.CarriesSame a b)
    (hev : responseEvent k a = some ev) : ∃ ev', responseEvent k b = some ev' ∧ eventKey s ev' = eventKey s ev := by
  obtain ⟨hread, hpoll⟩ := h
  cases k <;> cases hev
  case read1 =>
    obtain ⟨hcnt, hlanes⟩ := hread (by decide)
    refine ⟨_, rfl, ?_⟩
    by_cases hzero : a.cnt = 0#3
    · simp [eventKey, ← hcnt, hzero]
    · rw [← hcnt, hlanes 0 (by decide) (by bv_omega)]
  case read5 =>
    obtain ⟨hcnt, -⟩ := hread (by decide)
    exact ⟨_, rfl, by simp [eventKey, hcnt]⟩
  case poll =>
    have havok : avok b.avail = avok a.avail := decide_eq_decide.2 (hpoll rfl).symm
    exact ⟨_, rfl, by simp [eventKey, havok]⟩

/-- ACC.R5_ACCEPT latches the count of a READ5 response. -/
theorem read5_of_decode_accR5Accept {k : ReqKind} {b : Bus} {ev : Event} {n : Count}
    (hev : responseEvent k b = some ev) (hi : decode (eventKey s ev) = .ok (.accR5Accept n)) :
    k = .read5 ∧ n = b.cnt := by
  cases k <;> cases hev
  case read1 => rw [decode_eventKey_r1] at hi; split_ifs at hi <;> cases hi
  case poll => rw [decode_eventKey_poll] at hi; split_ifs at hi <;> cases hi
  case read5 => rw [decode_eventKey_r5] at hi; split_ifs at hi <;> cases hi; exact ⟨rfl, rfl⟩

/-- An edge in another environment with the same `rst`, `en` and host time, in which the response carries the same, does the
same to every register: the carried fields fix the decode key, hence the operation, and ACC.R5_ACCEPT, the one that reads the
lanes, masks them to the count. -/
theorem sameNextRegs_of_carriesSame (hreq : s.RequestInv) (hrst : e.pins.rst = s.env.pins.rst)
    (hen : e.pins.en = s.env.pins.en) (htime : (s.setEnv e).hostTime = s.hostTime)
    (hvalid : (s.setEnv e).bus.valid = s.bus.valid) (hcarries : s.rqKind.CarriesSame s.bus (s.setEnv e).bus) :
    SameNextRegs s (s.setEnv e) := by
  refine sameNextRegs_of_edge (edge_setEnv hrst hvalid (fun _ _ => hen) fun _ _ _ hq _ => ?_)
  obtain ⟨ev, hev⟩ := exists_responseEvent hreq hq s.bus
  obtain ⟨ev', hev', hkey⟩ := eventKey_eq_of_carriesSame (s := s.clearStrobe) hcarries hev
  have hi := decode_fields (eventKey s.clearStrobe ev)
  refine acceptResponse_setEnv (s := s.clearStrobe) hev hev' hi (by rw [hkey]; exact hi) (fun _ => htime) fun n hn => ?_
  rw [hn] at hi
  obtain ⟨hk, rfl⟩ := read5_of_decode_accR5Accept hev hi
  obtain ⟨hread, -⟩ := hcarries
  obtain ⟨-, hlanes⟩ := hread (by simp [hk])
  exact (maskLanes_congr hlanes).symm

/-- Settles O47. The sinks' readiness is none of the inputs an edge reads. -/
theorem sinksNeverReachARegister : Obligations.SinksNeverReachARegister := by
  unfold Obligations.SinksNeverReachARegister
  intro s v ⟨_, hreq, _⟩
  exact sameNextRegs_of_carriesSame hreq rfl rfl rfl rfl ⟨fun _ => ⟨rfl, fun _ _ _ => rfl⟩, fun _ => .rfl⟩

/-- Settles O42. That two edges agree on every register says that both answer. -/
theorem stepAnswersUnderInvariant : Obligations.StepAnswersUnderInvariant := by
  unfold Obligations.StepAnswersUnderInvariant
  intro s h
  obtain ⟨t, -, ht, -⟩ := sinksNeverReachARegister s s.env.pins.sinkTakes h
  exact ⟨t, ht⟩

/-- Settles O56. The buses carry the same once the port has saturated their available counts, which keeps the test for 5
bytes. -/
theorem ignoredBusFieldsReachNoRegister : Obligations.IgnoredBusFieldsReachNoRegister := by
  unfold Obligations.IgnoredBusFieldsReachNoRegister
  intro s a b ⟨_, hreq, _, _, ⟨_, havw, _⟩, _⟩ _ hvalid hread hpoll
  have hport (n : Nat) : 5 ≤ portAvail s.params n ↔ 5 ≤ n := five_le_portAvail s.params n havw
  exact sameNextRegs_of_carriesSame (s := withPins s { s.env.pins with src := .wires a }) hreq rfl rfl rfl hvalid.symm
    ⟨hread, fun hk => ((hport a.avail).trans (hpoll hk)).trans (hport b.avail).symm⟩

end Sys2Proof.Machine
end

section
/-! PROOF. Control under the invariant: resynchronisation after an outcome (R107), leaving HUNT (R22), the unbounded wait
(R126), and the source's duty (R240). -/

namespace Sys2Proof.Machine

open Sys2Proof.Claims

variable {s t u : State} {i : Instr} {ev : Event}

/-- Settles O41. The invariant of the next state says what holds while the strobe is up, and the start marker's key does not
depend on the state. -/
theorem outcomesResynchronise : Obligations.OutcomesResynchronise := by
  unfold Obligations.OutcomesResynchronise
  intro s t hinv h hv
  obtain ⟨-, -, ⟨-, -, -, hend⟩, -⟩ := stepKeepsInvariant s t hinv h
  obtain ⟨hst, harmed, hq, hf⟩ := hend hv
  exact ⟨hst, harmed, hq, hf, decode_r1_startMarker t⟩

/-- Settles O51. While the strobe is up the block is in HUNT with no request, so the edge has no event that could emit. -/
theorem strobesAreNeverAdjacent : Obligations.StrobesAreNeverAdjacent := by
  unfold Obligations.StrobesAreNeverAdjacent
  intro s t ⟨_, _, ⟨_, _, _, hend⟩, _⟩ hv h
  obtain ⟨hst, -, hq, -⟩ := hend hv
  cases hr : s.env.pins.rst with
  | true =>
    rw [step_reset hr] at h
    cases h
    rfl
  | false =>
    obtain ⟨_, _, _, ⟨hq', -⟩ | ⟨hst', -⟩, -⟩ | ht := step_performs_or_holds hr h
    · simp [hq] at hq'
    · simp [hst] at hst'
    · rw [ht]

/-- The edge that accepts the start marker (R103). -/
theorem step_acceptsStart (h : AcceptsStart s) :
    step s = .next ((((((s.clearStrobe.setTCap s.hostTime).setTmo 0).setArmed false).setSt .accumulate).clearRequest).setEnv
      s.nextEnv) := by
  obtain ⟨hr, hf, hst, hq, hk, hv, hc, hb⟩ := h
  have hlive : Live s := ⟨hr, hf, by simp [hst]⟩
  rw [step_accept hlive hq hv (responseEvent_eq_start_iff.2 ⟨hk, hc, hb⟩) (decode_r1_startMarker s) rfl,
    if_neg (by simp [hf])]
  rfl

/-- Without `rst`, an edge that leaves HUNT accepts the start marker: nothing but an operation writes `st`, and of the
operations of a READ1 response only HUNT.START does. -/
theorem acceptsStart_of_step_leaves_hunt (hreq : s.RequestInv) (hst : s.st = .hunt) (hr : s.env.pins.rst = false)
    (h : step s = .next t) (hleft : t.st ≠ .hunt) : AcceptsStart s := by
  have hf : s.fault = false := by
    by_contra hfaulted
    rw [step_faulted (by simpa using hfaulted) hr] at h
    cases h
    exact hleft hst
  obtain ⟨ev, i, u, hoc, hi, hx, ht⟩ | ht := step_performs_or_holds hr h <;> rw [ht] at hleft
  case inr => exact absurd hst hleft
  obtain ⟨hq, hv, hev⟩ | ⟨hst', -⟩ := hoc
  case inr => simp [hst] at hst'
  obtain ⟨hk, -⟩ | ⟨-, hst', -⟩ | ⟨-, hst', -⟩ := hreq hq
  case inr.inl | inr.inr => simp [hst] at hst'
  simp only [hk, responseEvent, Option.some.injEq] at hev
  subst hev
  have hop : i = .huntStart := by
    rw [decode_eventKey_r1] at hi
    split_ifs at hi <;> cases hi
    case pos => rfl
    all_goals cases hx; exact absurd hst hleft
  subst hop
  obtain ⟨hc, hb⟩ : s.bus.cnt = 1#3 ∧ lane s.bus.data 0 = Config.startMarker := by
    injection eq_r1_of_decode_huntStart hi with hc hb
    exact ⟨hc, hb⟩
  exact ⟨hr, hf, hst, hq, hk, hv, hc, hb⟩

/-- Settles O49. Reset enters HUNT; every other edge that leaves it accepts the start marker, whose step is explicit. -/
theorem huntLeftOnlyByStartMarker : Obligations.HuntLeftOnlyByStartMarker := by
  unfold Obligations.HuntLeftOnlyByStartMarker
  intro s t ⟨_, hreq, _⟩ hst h hleft
  cases hr : s.env.pins.rst with
  | true =>
    rw [step_reset hr] at h
    cases h
    exact absurd rfl hleft
  | false =>
    have hstart := acceptsStart_of_step_leaves_hunt hreq hst hr h hleft
    rw [step_acceptsStart hstart] at h
    cases h
    exact ⟨hstart, rfl, rfl, rfl, rfl, rfl, rfl⟩

/-- A response within the source's duty raises no fault (R207). -/
theorem accept_conforming_fault (hf : s.fault = false)
    (hread1 : s.rqKind = .read1 → s.bus.cnt ≤ 1#3) (hread5 : s.rqKind = .read5 → s.bus.cnt ≤ 5#3)
    (hev : responseEvent s.rqKind s.bus = some ev) (hi : decode (eventKey s ev) = .ok i)
    (hx : exec i s.clearStrobe = .next u) : u.fault = false := by
  obtain ⟨-, -, -, rfl⟩ | ⟨-, -, rfl⟩ | ⟨-, -, -, rfl⟩ | ⟨hk, -, hcnt, -⟩ | ⟨-, -, rfl⟩ | ⟨-, -, -, rfl⟩ |
    ⟨-, -, rfl⟩ | ⟨hk, hcnt, -⟩ | ⟨-, -, rfl⟩ := accepted_cases hev hi hx
  · exact hf -- HUNT.START
  · exact hf -- HUNT.NEWLINE, HUNT.TIMEOUT
  · exact hf -- HUNT.UNEXPECTED
  · have hduty := hread1 hk -- HUNT.CNTFAULT
    bv_omega
  · exact hf -- ACC.POLL_READY
  · exact hf -- ACC.POLL_TIMEOUT
  · exact hf -- ACC.POLL_WAIT
  · have hduty := hread5 hk -- ACC.R5_CNTFAULT
    bv_omega
  · exact hf -- ACC.R5_ACCEPT

/-- Settles O48. Each edge that faults breaks a premise: a spurious response or an excess count the duty, state 11 or an
excess count in VALIDATE the invariant. -/
theorem conformingSourceNeverFaults : Obligations.ConformingSourceNeverFaults := by
  unfold Obligations.ConformingSourceNeverFaults
  intro s t ⟨⟨hlegal, _, hcnt, _⟩, _⟩ hf hduty h
  obtain ⟨v, hv, rfl⟩ := step_cases h
  show v.fault = false
  obtain ⟨-, rfl⟩ | ⟨-, hfaulted, -⟩ | ⟨-, -, ⟨hst, -⟩ | ⟨-, hvalid, hq, -⟩ | ⟨-, hvalid, -, ev, i, u, hev, hi, hx, rfl⟩ |
    ⟨-, -, -, rfl⟩ | ⟨-, -, -, i, hi, hx⟩ | ⟨-, -, -, -, rfl⟩⟩ := edge_cases hv
  · rfl -- reset
  · exact absurd hfaulted (by simp [hf]) -- faulted before
  · exact absurd hst hlegal -- state 11
  · obtain ⟨hq', -⟩ := hduty hvalid -- spurious response
    simp [hq] at hq'
  · obtain ⟨-, hread1, hread5⟩ := hduty hvalid -- accepted response
    have hu := accept_conforming_fault hf hread1 hread5 hev hi hx
    simp [hu]
  · exact hf -- wait
  · obtain ⟨-, rfl⟩ | ⟨-, rfl⟩ | ⟨hexcess, -⟩ | ⟨-, rfl⟩ := validate_cases hi hx -- VALIDATE
    · exact hf
    · exact hf
    · bv_omega
    · exact hf
  · obtain hidle | ⟨k, -, hissue⟩ := issueRequest_cases s.clearStrobe
    · rw [hidle]; exact hf
    · rw [hissue]; exact hf

/-- Settles O50. Whether the edge accepts a POLL below 5, holds it or issues it, only the poll count and the request change.
-/
theorem unboundedWaitIsKept : Obligations.UnboundedWaitIsKept := by
  unfold Obligations.UnboundedWaitIsKept
  intro s ⟨_, hreq, _⟩ hoff hst harmed hf hr hduty hshort
  have hlive : Live s := ⟨hr, hf, by simp [hst]⟩
  have hstep : ∃ n q k, step s =
      .next { s with outValid := false, tmo := n, rqOut := q, rqKind := k, env := s.nextEnv } := by
    cases hq : s.rqOut with
    | true =>
      cases hv : s.bus.valid with
      | true =>
        have hk : s.rqKind = .poll := by
          obtain ⟨-, hst'⟩ | ⟨hk, -⟩ | ⟨-, -, harmed'⟩ := hreq hq
          · simp [hst] at hst'
          · exact hk
          · simp [harmed] at harmed'
        have hi := decode_poll_wait (hshort hv) (.inl hoff)
        rw [step_accept hlive hq hv (by rw [hk]; rfl) hi rfl, if_neg (by simp [hf])]
        exact ⟨_, _, _, rfl⟩
      | false =>
        obtain ⟨-, -, -, hheld⟩ := requestIssueAndHold s hlive hv
        exact ⟨_, _, _, hheld hq⟩
    | false =>
      have hv : s.bus.valid = false := by
        by_contra hv
        obtain ⟨hq', -⟩ := hduty (by simpa using hv)
        simp [hq] at hq'
      obtain ⟨-, -, hissue, -⟩ := requestIssueAndHold s hlive hv
      exact ⟨_, _, _, hissue hq hst⟩
  obtain ⟨n, q, k, hstep⟩ := hstep
  exact ⟨_, hstep, hst, harmed, hf, presented_of_not_valid _ rfl, ⟨rfl, rfl, rfl, rfl, rfl, rfl, rfl⟩, rfl, rfl, rfl⟩

end Sys2Proof.Machine
end

section
/-! PROOF. Runs (70_reset_and_hazards.md, sections 3 and 5): a launched run never faults, an ended run is quiescent, and ready
sinks record what is emitted. -/

namespace Sys2Proof.Machine

open Sys2Proof.Claims

variable {s t u : State} {i : Instr} {ev : Event} {o : PortOutcome}

/-! ## Launched and ended runs -/

/-- From an unfaulted state of the invariant, a run with a conforming source answers at every edge, unfaulted. -/
theorem exists_stateAfter_unfaulted (n : Nat) (hinv : s.Inv) (hf : s.fault = false) (hduty : RunConforms n s) :
    ∃ t, stateAfter n s = some t ∧ t.fault = false := by
  induction n generalizing s with
  | zero => exact ⟨s, rfl, hf⟩
  | succ n ih =>
    obtain ⟨u, hu⟩ := stepAnswersUnderInvariant s hinv
    obtain ⟨hfirst, hrest⟩ := hduty.first_and_rest hu
    rw [stateAfter_succ n hu]
    exact ih (stepKeepsInvariant s u hinv hu) (conformingSourceNeverFaults s u hinv hf hfirst hu) hrest

/-- Settles O44. Clean registers are an unfaulted state of the invariant, and the source conforms by premise. -/
theorem launchedRunNeverFaults : Obligations.LaunchedRunNeverFaults := by
  unfold Obligations.LaunchedRunNeverFaults
  intro n s ⟨hreset, _, hp, hduty, _⟩
  have hf : s.fault = false := congrArg State.fault hreset
  exact exists_stateAfter_unfaulted n (inv_of_resetClean hreset hp) hf hduty

/-- In HUNT with nothing outstanding and `en` low, a conforming source leaves the edge nothing to do. -/
theorem step_idle (hf : s.fault = false) (hst : s.st = .hunt) (hq : s.rqOut = false) (hen : s.env.pins.en = false)
    (hr : s.env.pins.rst = false) (hduty : s.SrcConforms) :
    step s = .next { s with outValid := false, env := s.nextEnv } := by
  have hv : s.bus.valid = false := by
    by_contra hv
    obtain ⟨hq', -⟩ := hduty (by simpa using hv)
    simp [hq] at hq'
  obtain ⟨-, hidle, -⟩ := requestIssueAndHold s ⟨hr, hf, by simp [hst]⟩ hv
  exact hidle hq hst hen

/-- Settles O45. Each edge of the run is `step_idle`, whose next state is again unfaulted in HUNT with nothing outstanding. -/
theorem endedRunIsQuiescent : Obligations.EndedRunIsQuiescent := by
  unfold Obligations.EndedRunIsQuiescent
  intro n s hended hquiet
  obtain ⟨hf, hst, hq, -⟩ := hended
  induction n generalizing s with
  | zero => exact ⟨s, rfl, rfl, rfl⟩
  | succ n ih =>
    obtain ⟨hen, hr, hduty⟩ := hquiet 0 (by omega) s rfl
    have hu := step_idle hf hst hq hen hr hduty
    obtain ⟨-, hrest⟩ := hquiet.first_and_rest hu
    obtain ⟨t, ht, hemit, hregs⟩ := ih _ hrest hf hst hq
    refine ⟨t, (stateAfter_succ n hu).trans ht, ?_, hregs⟩
    rw [emissions_succ n hu, presented_of_not_valid _ rfl, hemit]
    rfl

/-! ## What the sinks get of one outcome (R60, R63, R66, R67) -/

/-- Sinks that take get of the outcome presented what each makes of it. -/
theorem sinksGet_of_presented (htakes : t.env.pins.sinkTakes = true) (hp : t.presented = some o) :
    SinksGet t o.sampleSink o.diagnosticSink := by
  have htaken : t.taken = some o := by rw [State.taken, if_pos htakes, hp]
  rw [SinksGet, htaken]
  exact ⟨rfl, rfl⟩

/-- Sinks that do not take, or have nothing presented, get nothing (R65). -/
theorem sinksGet_none (h : t.env.pins.sinkTakes = false ∨ t.outValid = false) : SinksGet t none none := by
  have htaken : t.taken = none := by
    obtain hmiss | hlow := h
    · rw [State.taken, if_neg (ne_true_of_eq_false hmiss)]
    · rw [State.taken, presented_of_not_valid t hlow, ite_self]
  rw [SinksGet, htaken]
  exact ⟨rfl, rfl⟩

/-- The raw bytes of a reject of at most 5 bytes are its first lanes (R63). -/
theorem rejectBytes_eq_firstLanes {k : Count} (hk : k ≤ 5#3) (d : Lanes) : rejectBytes k d = firstLanes k.toNat d := by
  have hle : k.toNat ≤ 5 := hk
  have hlanes : [lane d 0, lane d 1, lane d 2, lane d 3, lane d 4] = (List.range 5).map (lane d) := rfl
  rw [rejectBytes, hlanes, ← List.map_take, List.take_range, Nat.min_eq_left hle]
  rfl

/-- The raw bytes of a one-byte reject are that byte (R105). -/
theorem rejectBytes_setWidth_byte (b : Byte) : rejectBytes 1#3 (b.setWidth 40) = [b] :=
  congrArg (· :: []) (lane_setWidth_byte b 0 (by decide))

/-- The sample's line is that of the four bytes of its fields (R66, R160). -/
theorem sampleLine_eq_lineOf (d : Lanes) (time : Nat) :
    sampleLine (packetTs d) (packetRd d) time = lineOf (lane d 0) (lane d 1) (lane d 2) (lane d 3) time := by
  simp only [sampleLine, lineOf, packetTs, packetRd, toNat_le16]

/-- A step that accepts a response presents what its operation does. -/
theorem presented_of_step_accept (hlive : Live s) (hq : s.rqOut = true) (hv : s.bus.valid = true)
    (hev : responseEvent s.rqKind s.bus = some ev) (hi : decode (eventKey s ev) = .ok i)
    (hx : exec i s.clearStrobe = .next u) (h : step s = .next t) : t.presented = u.presented := by
  rw [step_accept hlive hq hv hev hi hx] at h
  cases h
  split <;> rfl

/-- What the sinks get of the outcome of VALIDATE (R141 to R143). -/
theorem sinksGet_of_step_val (hlive : Live s) (h : step s = .next t) (htakes : t.env.pins.sinkTakes = true)
    (hst : s.st = .validate) (hq : s.rqOut = false) (hv : s.bus.valid = false) (hcnt : s.cnt ≤ 5#3) :
    SinksGet t s.valOutcome.sampleSink s.valOutcome.diagnosticSink := by
  rw [step_val hlive hst hcnt hq hv] at h
  cases h
  refine sinksGet_of_presented htakes ?_
  rw [presented_setEnv, presented_setSt, presented_emit]

/-! ## What the sinks get of a run -/

/-- A sink that ignores Idles gets the same of what ready sinks take as of what is presented. -/
theorem filterMap_taken {α : Type} {f : PortOutcome → Option α} (hidle : f .idle = none)
    (hready : ∀ o, t.presented = some o → o.forSink = true → t.taken = some o) :
    t.taken.toList.filterMap f = t.presented.toList.filterMap f := by
  have htaken : t.taken = t.presented ∨ t.taken = none := by
    unfold State.taken
    split
    · exact .inl rfl
    · exact .inr rfl
  obtain heq | hnone := htaken
  · rw [heq]
  cases hp : t.presented with
  | none => rw [hnone]
  | some o =>
    cases o with
    | idle => simp [hnone, hidle]
    | sample | rejected => simp [hready _ hp rfl]

/-- In a run with ready sinks, a sink that ignores Idles gets what is emitted for it, in order. -/
theorem filterMap_recorded {α : Type} {f : PortOutcome → Option α} (hidle : f .idle = none) (n : Nat)
    (hready : SinkReady n s) : (recorded n s).filterMap f = (emissions n s).filterMap f := by
  induction n generalizing s with
  | zero => rfl
  | succ n ih =>
    cases h : step s with
    | next t =>
      obtain ⟨hfirst, hrest⟩ := hready.first_and_rest h
      rw [recorded_succ n h, emissions_succ n h, List.filterMap_append, List.filterMap_append,
        filterMap_taken hidle hfirst, ih hrest]
    | fault r => simp only [recorded, emissions, h]
    | refused r => simp only [recorded, emissions, h]

/-- Settles O46. Each step that presents an outcome is explicit, and `sinksGet_of_presented` reads off what the sinks make of
it; over a run, `filterMap_recorded` is used once for each sink. -/
theorem readySinksRecordTheRun : Obligations.ReadySinksRecordTheRun := by
  unfold Obligations.ReadySinksRecordTheRun
  refine ⟨fun s t _ => sinksGet_none, fun s t hlive h htakes => ⟨fun hst hq hv hcnt => ?validate,
    fun hq hk hv => ⟨fun hidle => ?idle, fun hc hstart hline => ?unexpected⟩,
    fun hq hk hv ha hon hle => ?timeout⟩,
    fun n s hready => ⟨filterMap_recorded rfl n hready, filterMap_recorded rfl n hready⟩⟩
  case validate =>
    have hget := sinksGet_of_step_val hlive h htakes hst hq hv hcnt
    rw [State.valOutcome] at hget
    split_ifs with hshort hend
    · rw [if_pos hshort] at hget
      rw [← rejectBytes_eq_firstLanes hcnt]
      exact hget
    · rw [if_neg hshort, if_pos (c := lane s.buf 4 = Config.endMarker) hend] at hget
      exact sampleLine_eq_lineOf s.buf s.tCap ▸ hget
    · rw [if_neg hshort, if_neg (c := lane s.buf 4 = Config.endMarker) hend] at hget
      exact rejectBytes_eq_firstLanes (k := 5#3) (by decide) s.buf ▸ hget
  case idle =>
    have hp : t.presented = some .idle := by
      obtain hc | ⟨hc, hb⟩ := hidle
      · exact presented_of_step_accept hlive hq hv (by rw [hk]; rfl) (hc ▸ decode_r1_zero s _) rfl h
      · exact presented_of_step_accept hlive hq hv (by rw [hk, responseEvent, hc, lane, hb]) (decode_r1_newline s) rfl h
    exact ⟨hp, sinksGet_of_presented htakes hp⟩
  case unexpected =>
    have hp := presented_of_step_accept hlive hq hv (by rw [hk, ← hc]; rfl) (decode_r1_unexpected s hstart hline) rfl h
    exact rejectBytes_setWidth_byte _ ▸ sinksGet_of_presented htakes hp
  case timeout =>
    have hp := presented_of_step_accept hlive hq hv (by rw [hk]; rfl) (decode_poll_timeout ha hon hle) rfl h
    exact sinksGet_of_presented htakes hp

end Sys2Proof.Machine
end

section
/-! PROOF. The ideal source (R77): what it answers to each kind of request, and what an edge leaves in its queue. -/

namespace Sys2Proof.Machine

open Sys2Proof.Claims

variable {s : State}

/-- An outstanding request to an answering ideal source is answered from the queue with the arrivals (R77). -/
theorem bus_of_ideal {arrivals : List Byte} (hsrc : s.env.pins.src = .ideal arrivals true) (hq : s.rqOut = true) :
    s.bus = { idealBus (s.env.queue ++ arrivals) s.rqKind true with
      avail := portAvail s.params (idealBus (s.env.queue ++ arrivals) s.rqKind true).avail } := by
  simp only [State.bus, hsrc, hq, Bool.and_true]

/-- An answered request takes its bytes from the queue with the arrivals (R55). -/
theorem queueAfter_of_ideal {arrivals : List Byte} (hsrc : s.env.pins.src = .ideal arrivals true)
    (hq : s.rqOut = true) : s.queueAfter = idealTaken (s.env.queue ++ arrivals) s.rqKind := by
  simp only [State.queueAfter, hsrc, hq, Bool.and_true, if_true]

theorem Env.advance_queue (e : Env) (queue : List Byte) : (e.advance queue).queue = queue := by
  unfold Env.advance
  split <;> rfl

/-- Every edge leaves the source's queue as `queueAfter` says. -/
theorem leavesQueue_queueAfter (s : State) : LeavesQueue s s.queueAfter := by
  intro _ _ _ t h
  obtain ⟨u, -, rfl⟩ := step_cases h
  exact s.env.advance_queue s.queueAfter

/-- The lanes of a queue are its first bytes, and 0x00 past its end. -/
theorem lane_queueLanes (q : List Byte) {i : Nat} (hi : i < 5) : lane (queueLanes q) i = q.getD i 0x00#8 := by
  unfold queueLanes
  interval_cases i <;> simp only [lane_packLanes_0, lane_packLanes_1, lane_packLanes_2, lane_packLanes_3, lane_packLanes_4]

/-- A lane below the number of delivered bytes is that byte of the queue (R54). -/
theorem getElem?_eq_lane_queueLanes_take {q : List Byte} {i : Nat} (hi : i < min 5 q.length) :
    q[i]? = some (lane (queueLanes (q.take 5)) i) := by
  have hlen : i < (q.take 5).length := by rwa [List.length_take]
  rw [lane_queueLanes _ (by omega), List.getD_eq_getElem _ _ hlen, List.getElem_take, List.getElem?_eq_getElem]

/-- Settles O57. The bus and the queue are `idealBus` and `idealTaken` of the request's kind, read field by field. -/
theorem idealSourceAnswers : Obligations.IdealSourceAnswers := by
  unfold Obligations.IdealSourceAnswers
  intro s arrivals hsrc hq
  have hleaves := leavesQueue_queueAfter s
  rw [queueAfter_of_ideal hsrc hq] at hleaves
  rw [bus_of_ideal hsrc hq]
  refine ⟨?valid, fun hk hqueue => ?nothing, fun hk b q hqueue => ?head, fun hk => ?poll, fun hk => ?read5⟩
  case valid => cases s.rqKind <;> rfl
  all_goals rw [hk] at hleaves ⊢
  case nothing =>
    rw [hqueue] at hleaves ⊢
    exact ⟨rfl, hleaves⟩
  case head =>
    rw [hqueue] at hleaves ⊢
    have hone : min 1 (b :: q).length = 1 := Nat.min_eq_left (by simp)
    exact ⟨congrArg (BitVec.ofNat 3) hone, lane_queueLanes ((b :: q).take 1) (i := 0) (by decide), hleaves⟩
  case poll => exact ⟨rfl, hleaves⟩
  case read5 =>
    have hcnt : (BitVec.ofNat 3 (min 5 (s.env.queue ++ arrivals).length)).toNat = min 5 (s.env.queue ++ arrivals).length := by
      rw [BitVec.toNat_ofNat, Nat.mod_eq_of_lt (by omega)]
    exact ⟨hcnt, fun i hi => getElem?_eq_lane_queueLanes_take (hcnt ▸ hi), hleaves⟩

end Sys2Proof.Machine
end

section
/-! PROOF. A placed key (log 13): the step after `withFetchWord` performs the operation decoded from the word. -/

namespace Sys2Proof.Machine

open Sys2Proof.Claims

variable {s t u : State} {i : Instr} {ev : Event} {w : DKey}

/-- The step from `s` performs operation `i`, and clears an outstanding request unless that raised a fault. -/
def StepPerforms (s : State) (i : Instr) : Prop :=
  ∃ t, exec i s.clearStrobe = .next t ∧
    ∃ u, step s = .next u ∧ u.SameRegs (if s.rqOut && !t.fault then t.clearRequest else t)

theorem stepPerforms_of_accept (hlive : Live s) (hq : s.rqOut = true) (hv : s.bus.valid = true)
    (hev : responseEvent s.rqKind s.bus = some ev) (hi : decode (eventKey s ev) = .ok i) : StepPerforms s i := by
  obtain ⟨t, hx⟩ := everyOperationCompletes i s.clearStrobe
  refine ⟨t, hx, _, step_accept hlive hq hv hev hi hx, ?_⟩
  cases hf : t.fault <;> rw [hq] <;> rfl

theorem stepPerforms_of_validate (hlive : Live s) (hst : s.st = .validate) (hq : s.rqOut = false)
    (hv : s.bus.valid = false) (hi : decode (eventKey s .val) = .ok i) : StepPerforms s i := by
  obtain ⟨t, hx⟩ := everyOperationCompletes i s.clearStrobe
  refine ⟨t, hx, _, step_validate hlive hst hq hv hi hx, ?_⟩
  rw [hq, Bool.false_and, if_neg Bool.false_ne_true]
  rfl

/-- State 11 raises its fault whatever request is outstanding, which it keeps (R209). -/
theorem stepPerforms_of_illegal (hr : s.env.pins.rst = false) (hf : s.fault = false) (hst : s.st = .illegal) :
    StepPerforms s .illegalState := by
  have hedge : edge s = .next (s.clearStrobe.raiseFault .illegalState) :=
    (edge_illegal hr hf hst).trans (perform_of_decode decode_illegalKey _)
  refine ⟨s.clearStrobe.raiseFault .illegalState, rfl, _, step_of_edge hedge, ?_⟩
  rw [State.raiseFault_fault, Bool.not_true, Bool.and_false, if_neg Bool.false_ne_true]
  rfl

/-! ## The five placings

Each placing sets the registers and the pins that the key's event reads, so the event's key decodes as the word does. -/

theorem stepPerforms_placeRead1 (hst : keySt w = 0b00#2) (hi : decode w = .ok i) (s : State) :
    StepPerforms (placeRead1 (keyCnt w) (keyByte w) s) i := by
  refine stepPerforms_of_accept (ev := .r1 (keyCnt w) (keyByte w))
    ⟨rfl, rfl, (by decide : CtlState.hunt ≠ .illegal)⟩ rfl rfl ?_ ?_
  · exact congrArg (fun b => some (Event.r1 (keyCnt w) b)) (lane_setWidth_byte (keyByte w) 0 (by decide))
  · rw [decode_fields, if_pos hst] at hi
    rw [decode_eventKey_r1, hi]

theorem stepPerforms_placeRead5 (hst : keySt w = 0b01#2) (harmed : keyArmed w = true) (hi : decode w = .ok i) (s : State) :
    StepPerforms (placeRead5 (keyCnt w) s) i := by
  refine stepPerforms_of_accept (ev := .r5 (keyCnt w) 0#40)
    ⟨rfl, rfl, (by decide : CtlState.accumulate ≠ .illegal)⟩ rfl rfl rfl ?_
  rw [decode_fields, if_neg (by simp [hst]), if_pos hst, if_pos harmed] at hi
  rw [decode_eventKey_r5, hi]

theorem stepPerforms_placePoll (hp : s.params.Ok) (hst : keySt w = 0b01#2) (harmed : keyArmed w = false)
    (hi : decode w = .ok i) : StepPerforms (placePoll (keyAvok w) (keyTmo w) s) i := by
  refine stepPerforms_of_accept (ev := .poll (placePoll (keyAvok w) (keyTmo w) s).bus.avail)
    ⟨rfl, rfl, (by decide : CtlState.accumulate ≠ .illegal)⟩ rfl rfl rfl ?_
  have havok : avok (placePoll (keyAvok w) (keyTmo w) s).bus.avail = keyAvok w := by
    obtain ⟨-, havw, -⟩ := hp
    cases keyAvok w with
    | false => exact avok_of_lt_five (Nat.lt_of_le_of_lt (Nat.min_le_left 0 _) (by decide))
    | true => exact avok_of_five_le ((five_le_portAvail s.params 5 havw).2 le_rfl)
  have htmo : tmoFires (placePoll (keyAvok w) (keyTmo w) s).params (placePoll (keyAvok w) (keyTmo w) s).tmo = keyTmo w := by
    cases keyTmo w with
    | false => exact tmoFires_of_off_or_below (.inl rfl)
    | true => exact tmoFires_of_reached Nat.one_ne_zero (Nat.succ_le_succ (Nat.zero_le _))
  rw [decode_fields, if_neg (by simp [hst]), if_pos hst, if_neg (by simp [harmed])] at hi
  rw [decode_eventKey_poll, havok, htmo, hi]

theorem stepPerforms_placeVal (hst : keySt w = 0b10#2) (hi : decode w = .ok i) (s : State) :
    StepPerforms (placeVal (keyCnt w) (keyByte w) s) i := by
  refine stepPerforms_of_validate ⟨rfl, rfl, (by decide : CtlState.validate ≠ .illegal)⟩ rfl rfl rfl ?_
  have hbyte : lane (placeVal (keyCnt w) (keyByte w) s).buf 4 = keyByte w := lane_packLanes_4 ..
  rw [decode_fields, if_neg (by simp [hst]), if_neg (by simp [hst]), if_pos hst] at hi
  rw [decode_eventKey_val, hbyte]
  exact hi

theorem stepPerforms_placeIllegal (hst : keySt w = 0b11#2) (hi : decode w = .ok i) (s : State) :
    StepPerforms (placeIllegal s) i := by
  rw [decode_fields, if_neg (by simp [hst]), if_neg (by simp [hst]), if_neg (by simp [hst])] at hi
  cases hi
  exact stepPerforms_of_illegal rfl rfl rfl

/-- The step from a placed key performs the operation the key decodes to. -/
theorem stepPerforms_placeKey (hp : s.params.Ok) (hi : decode w = .ok i) : StepPerforms (placeKey w s) i := by
  have hcode : ∀ c : BitVec 2, c = 0b00#2 ∨ c = 0b01#2 ∨ c = 0b10#2 ∨ c = 0b11#2 := by decide
  unfold placeKey
  obtain hst | hst | hst | hst := hcode (keySt w) <;> rw [hst]
  · exact stepPerforms_placeRead1 hst hi s
  · show StepPerforms (if keyArmed w then _ else _) i
    cases harmed : keyArmed w
    · exact stepPerforms_placePoll hp hst harmed hi
    · exact stepPerforms_placeRead5 hst harmed hi s
  · exact stepPerforms_placeVal hst hi s
  · exact stepPerforms_placeIllegal hst hi s

/-- Settles O58. The decoder is total, and `placeKey` makes the step perform what it decodes. -/
theorem placedKeyRuns : Obligations.PlacedKeyRuns := by
  unfold Obligations.PlacedKeyRuns
  intro s w hp
  have hi := decode_fields (BitVec.ofNat 16 (w % 2 ^ 16))
  obtain ⟨t, hx, hstep⟩ := stepPerforms_placeKey hp hi
  refine ⟨_, t, ?_, hx, hstep⟩
  rw [decodeTableWord, if_pos le_rfl, hi]

end Sys2Proof.Machine
end
